-- ==== Sys2Proof/Word.lean ====
section
/-! DEFINITION. The word types of QRC: bytes, the 32-bit bus word, the 17-bit bus address (spec 00_scope.md R6, R8). -/

namespace Sys2Proof

/-- A byte, 0..255 (R8); an element of GF(256) (R130). -/
abbrev Byte := BitVec 8

/-- A bus word, a register, a command word (R21, R70, R100). -/
abbrev Word := BitVec 32

/-- A 17-bit byte address on the host bus (R70, R71). -/
abbrev Addr := BitVec 17

end Sys2Proof
end

