-- ==== Sys2Proof/Syntax.lean ====
section
/-! DEFINITION. The commands of QRC, one constructor per row of spec/opcode_table.json (30_encoding.md R102). -/

namespace Sys2Proof

/-- A command. The only operand in a command word is MID (R101). -/
inductive Instr where
  /-- NOP, R290 -/
  | nop
  /-- GF_LOG, R137 -/
  | gfLog
  /-- GF_EXP, R138 -/
  | gfExp
  /-- RS_GEN, R153 -/
  | rsGen
  /-- RS_ENC, R155 -/
  | rsEnc
  /-- STREAM_BUILD, R181 -/
  | streamBuild
  /-- FRAME_BUILD, R200 -/
  | frameBuild
  /-- PLACE, R230 -/
  | place
  /-- MASK_APPLY mid, R252 -/
  | maskApply (mid : Nat)
  /-- MASK_SCORE, R260 -/
  | maskScore
  /-- MASK_SELECT, R261 -/
  | maskSelect
  /-- FORMAT_EMBED mid, R272 -/
  | formatEmbed (mid : Nat)
  /-- SESSION_BEGIN, R291 -/
  | sessionBegin
  /-- ENCODE, R292 -/
  | encode
  deriving DecidableEq, Repr

end Sys2Proof
end

