-- ==== Sys2Proof/WellFormed.lean ====
section
/-! DEFINITION. Which commands have a command word: MID is a 3-bit number (30_encoding.md R100, R101). -/

namespace Sys2Proof

/-- The check on the one operand of a command word: MID in 0..7. -/
def Instr.wellFormed : Instr → Bool
  | .nop | .gfLog | .gfExp | .rsGen | .rsEnc | .streamBuild | .frameBuild | .place => true
  | .maskApply mid => decide (mid < 8)
  | .maskScore | .maskSelect => true
  | .formatEmbed mid => decide (mid < 8)
  | .sessionBegin | .encode => true

end Sys2Proof
end

