-- ==== Sys2Proof/Decode.lean ====
section
/-! DEFINITION. Decoding a command word (30_encoding.md R100–R105), total on all 2^32 words, illegal words rejected by
name (R103), and the encoder of the same table (R106). -/

namespace Sys2Proof

/-- Why a command word is illegal: cases (a), (b), (c) of R103. -/
inductive Illegal where
  /-- (a) OP is not in the opcode map (R102, R104) -/
  | opcode
  /-- (b) bits [31:11] are not all 0 -/
  | reservedBits
  /-- (c) MID ≠ 0 for a command without MID -/
  | midNotZero
  deriving DecidableEq, Repr

/-- OP, bits [7:0] (R100). -/
def opField (w : Word) : Nat := (w.extractLsb' 0 8).toNat

/-- MID, bits [10:8] (R100, R101). -/
def midField (w : Word) : Nat := (w.extractLsb' 8 3).toNat

/-- The reserved bits [31:11] (R100). -/
def reservedField (w : Word) : Nat := (w.extractLsb' 11 21).toNat

/-- A command without MID: its MID field must be 0 (R103 (c)). -/
def plainCommand (w : Word) (i : Instr) : Except Illegal Instr :=
  if midField w = 0 then .ok i else .error .midNotZero

/-- The command of an opcode (R102). -/
def decodeOp (w : Word) : Except Illegal Instr :=
  match opField w with
  | 0x00 => plainCommand w .nop
  | 0x01 => plainCommand w .gfLog
  | 0x02 => plainCommand w .gfExp
  | 0x10 => plainCommand w .rsGen
  | 0x11 => plainCommand w .rsEnc
  | 0x20 => plainCommand w .streamBuild
  | 0x30 => plainCommand w .frameBuild
  | 0x40 => plainCommand w .place
  | 0x50 => .ok (.maskApply (midField w))
  | 0x51 => plainCommand w .maskScore
  | 0x52 => plainCommand w .maskSelect
  | 0x60 => .ok (.formatEmbed (midField w))
  | 0x70 => plainCommand w .sessionBegin
  | 0x7F => plainCommand w .encode
  | _ => .error .opcode

/-- The command of a word, or why the word is illegal (R103). -/
def decode (w : Word) : Except Illegal Instr :=
  if reservedField w = 0 then decodeOp w else .error .reservedBits

/-- OP of a command (R102). -/
def opcodeOf : Instr → Nat
  | .nop => 0x00
  | .gfLog => 0x01
  | .gfExp => 0x02
  | .rsGen => 0x10
  | .rsEnc => 0x11
  | .streamBuild => 0x20
  | .frameBuild => 0x30
  | .place => 0x40
  | .maskApply _ => 0x50
  | .maskScore => 0x51
  | .maskSelect => 0x52
  | .formatEmbed _ => 0x60
  | .sessionBegin => 0x70
  | .encode => 0x7F

/-- MID of a command, 0 where it has none (R100). -/
def midOf : Instr → Nat
  | .maskApply mid => mid
  | .formatEmbed mid => mid
  | .nop | .gfLog | .gfExp | .rsGen | .rsEnc | .streamBuild | .frameBuild | .place => 0
  | .maskScore | .maskSelect | .sessionBegin | .encode => 0

/-- The assembled word `OP | (MID << 8)` (R106). -/
def encode (i : Instr) : Word :=
  BitVec.ofNat 32 (opcodeOf i) ||| (BitVec.ofNat 32 (midOf i) <<< 8)

/-- The command this decoder reads from a table row's word; a command is one 32-bit word (R105), so the bits above
`nbits` are 0. -/
def decodeTableWord (nbits w : Nat) : Option Instr :=
  match decode (BitVec.ofNat 32 (w % 2 ^ nbits)) with
  | .ok i => some i
  | .error _ => none

end Sys2Proof
end

