-- ==== Sys2Proof/Config.lean ====
section
/-! DEFINITION. What an implementation fixes (the named table parameters of 00_scope.md R7) and the free values:
constants without a body, which nothing in Lean can evaluate. -/

namespace Sys2Proof

/-- One entry of BLOCK_TABLE (R170): short_count, long_count, data_width, ecc_width. -/
structure BlockEntry where
  short : Nat
  long : Nat
  dataWidth : Nat
  eccWidth : Nat
  deriving DecidableEq, Repr

/-- The named configuration parameters of R7. The machine takes them as an argument (`Machine.coreWith`, `stepWith`,
`execWith`); `exec`, `step` and `core` are the machine at `Machine.stdParams`, their default content (assumption log
entries 9 and 16). -/
structure Params where
  /-- BLOCK_TABLE (version, level), R171 -/
  blockTable : Nat → Nat → BlockEntry
  /-- MODE_NIBBLE, R175 -/
  modeNibble : BitVec 4
  /-- ALIGN_DELTA (version), R206 -/
  alignDelta : Nat → Nat
  /-- VERSION_WORD (version), R209 -/
  versionWord : Nat → BitVec 18
  /-- MASK_PRED (id, x, y), R251 -/
  maskPred : Nat → Nat → Nat → Bool
  /-- FORMAT_WORD (level, id), R270 -/
  formatWord : Nat → Nat → BitVec 15

/-- FREE VALUE: the byte at a bus address in draw `n`. Draw `State.ramDraw` fills the RAM bytes nothing has written
since power-on (R362, I17); an abort fills the bytes of the aborted command with a draw of its own (R363, I18). -/
opaque Config.freeByte : Nat → Nat → Byte

/-- FREE VALUE: the word a read returns while BUSY = 1 (R366, I12); each such read uses a draw of its own. -/
opaque Config.freeWord : Nat → Word

end Sys2Proof
end

