-- ==== Sys2Proof/Machine/Memory.lean ====
section
/-! DEFINITION. The RAMs of QRC as one list of (bus address, byte) pairs over the 17-bit address map (20_memory.md R71):
byte i of a RAM stands at its window's base + 4·i (R71, R73). An unlisted address holds no written byte; reading it
draws the free value (R362, assumption log entry 1). -/

namespace Sys2Proof.Machine

/-- Memory: addresses strictly rising, one entry for each byte something has written since power-on. -/
abbrev Memory := List Host.Cell

/-- The five RAMs (10_state.md R38–R41), in address order. -/
inductive Ram where
  | gen
  | payload
  | stream
  | bitmap
  | reserved
  deriving DecidableEq, Repr

/-- First bus address of a RAM's window (R71). -/
def Ram.base : Ram → Nat
  | .gen => 0x01800
  | .payload => 0x04000
  | .stream => 0x08000
  | .bitmap => 0x0C000
  | .reserved => 0x10000

/-- Bytes in a RAM (R6, R38–R41). -/
def Ram.size : Ram → Nat
  | .gen => 256
  | .payload => 4096
  | .stream => 4096
  | .bitmap => 4096
  | .reserved => 4096

/-- Bus address of byte i of a RAM (R71). -/
def Ram.addr (r : Ram) (i : Nat) : Nat := r.base + 4 * i

/-- The address belongs to byte i < size of the RAM. -/
def Ram.holds (r : Ram) (a : Nat) : Bool :=
  decide (r.base ≤ a) && decide (a < r.base + 4 * r.size) && decide (a % 4 = 0)

/-- The address is a RAM byte's. -/
def isRamAddr (a : Nat) : Bool :=
  Ram.gen.holds a || Ram.payload.holds a || Ram.stream.holds a || Ram.bitmap.holds a || Ram.reserved.holds a

/-- The byte written at an address, none where nothing has been written. -/
def Memory.find : Memory → Nat → Option Byte
  | [], _ => none
  | (k, b) :: rest, a => if a = k then some b else if a < k then none else Memory.find rest a

/-- Write one byte, keeping the addresses rising. -/
def Memory.store : Memory → Nat → Byte → Memory
  | [], a, b => [(a, b)]
  | (k, c) :: rest, a, b =>
    if a < k then (a, b) :: (k, c) :: rest
    else if a = k then (a, b) :: rest
    else (k, c) :: Memory.store rest a b

/-- What an address reads as: the byte written there, else the free value of draw `fill` (R362). -/
def Memory.byte (fill : Nat) (m : Memory) (a : Nat) : Byte :=
  (Memory.find m a).getD (Config.freeByte fill a)

/-- The canonical form: addresses strictly rising, every one a RAM byte's. -/
abbrev Memory.wf (m : Memory) : Prop :=
  (m.map Prod.fst).Pairwise (· < ·) ∧ ∀ c ∈ m, isRamAddr c.1 = true

/-- Write bytes at `a`, `a + 4`, … (consecutive bytes of a window, R71). -/
def Memory.storeBytes : Memory → Nat → List Byte → Memory
  | m, _, [] => m
  | m, a, b :: bs => Memory.storeBytes (Memory.store m a b) (a + 4) bs

/-- Make the bytes at the listed addresses unspecified: the free value of draw `n` (R363). -/
def Memory.forget (n : Nat) (as : List Nat) (m : Memory) : Memory :=
  as.foldl (fun m a => Memory.store m a (Config.freeByte n a)) m

end Sys2Proof.Machine
end

