-- ==== Sys2Proof/Machine/State.lean ====
section
/-! DEFINITION. The state of QRC (10_state.md), what can stop a step, and the state after power-on reset (R45, R361). -/

namespace Sys2Proof.Machine

/-- The sequencer (R44): idle, or executing the accepted command in CMD, with `left` more model steps of LATENCY before
the step in which it completes (R372). STATUS.BUSY = 1 iff it is executing (R26). -/
inductive Sequencer where
  | idle
  | executing (left : Nat)
  deriving DecidableEq, Repr

/-- The error codes (60_exceptions.md R321); codes 9..15 are never produced. -/
inductive ErrCode where
  | none
  | badCmd
  | badCfg
  | badArg
  | seq
  | frameAlreadyBuilt
  | arenaExhausted
  | cfgLocked
  | busyWrite
  deriving DecidableEq, Repr

/-- What the outside world does next (20_memory.md R70; 70_reset_and_hazards.md R360). -/
inductive Input where
  /-- a host read of one word, `MemRead(a, 4)` -/
  | read (a : Addr)
  /-- a host write of one word, `MemWrite(a, 4, v)` -/
  | write (a : Addr) (v : Word)
  /-- power-on reset -/
  | powerOn
  deriving DecidableEq, Repr

/-- Why a step faults: never. Every access completes (R70: no bus errors), every command completes (R371), and an error
is a next state (R320, R324), so there is no constructor. Safe: nothing can be claimed of a fault. -/
inductive Fault where
  deriving DecidableEq, Repr

/-- Why a step is refused. -/
inductive Refusal where
  /-- Raised by an arm of `exec` for a command that has no meaning yet; no arm raises it. Safe: the machine stops. -/
  | notModelled (mnemonic : String)
  deriving DecidableEq, Repr

/-- The architectural state. STATUS, CTRL, CFG, PLEN, ERRCODE, USED_LEN, BEST and GEN_LEN are held by their fields;
their reserved bits read 0 and ignore writes (R22 (c)), so they are not stored. -/
structure State where
  /-- CTRL.IE_DONE, R25 -/
  ieDone : Bool
  /-- CTRL.IE_ERR, R25 -/
  ieErr : Bool
  /-- the sequencer; STATUS.BUSY, R26, R44 -/
  seq : Sequencer
  /-- STATUS.DONE, R26 -/
  done : Bool
  /-- STATUS.ERR, R26 -/
  err : Bool
  /-- STATUS.FRAME_BUILT, R27 -/
  frameBuilt : Bool
  /-- STATUS.STREAM_VALID, R27 -/
  streamValid : Bool
  /-- STATUS.GEN_VALID, R27 -/
  genValid : Bool
  /-- STATUS.PLACED, R27 -/
  placed : Bool
  /-- STATUS.SELECTED, R27 -/
  selected : Bool
  /-- STATUS.SYMBOL_VALID, R27 -/
  symbolValid : Bool
  /-- STATUS.TRUNCATED, R27 -/
  truncated : Bool
  /-- CMD, the last accepted word, R28 -/
  cmd : Word
  /-- CFG.VERSION, R29 -/
  version : BitVec 6
  /-- CFG.ECCLVL, R29 -/
  eccLvl : BitVec 2
  /-- PLEN.LEN, R31 -/
  plen : BitVec 12
  /-- ARG0, R23 -/
  arg0 : Word
  /-- ARG1, R23 -/
  arg1 : Word
  /-- ARG2, R23 -/
  arg2 : Word
  /-- RESULT, R23 -/
  result : Word
  /-- ERRCODE.CODE, R32 -/
  errCode : ErrCode
  /-- USED_LEN, R34 -/
  usedLen : BitVec 12
  /-- BEST.ID, R35 -/
  bestId : BitVec 3
  /-- BEST.VALID, R35 -/
  bestValid : Bool
  /-- PEN1, R36 -/
  pen1 : Word
  /-- PEN2, R36 -/
  pen2 : Word
  /-- PEN3, R36 -/
  pen3 : Word
  /-- PEN4, R36 -/
  pen4 : Word
  /-- DARK, R36 -/
  dark : Word
  /-- SCORE0 .. SCORE7, R36 -/
  scores : Vector Word 8
  /-- ARENA_LIMIT, R37 -/
  arenaLimit : Word
  /-- ARENA_USED, R37 -/
  arenaUsed : Word
  /-- GEN_LEN, R40 -/
  genLen : BitVec 7
  /-- PAYLOAD, STREAM, GEN, BITMAP and RESERVED RAM, R38–R41 -/
  mem : Memory
  /-- MODEL'S OWN: the draw of the free value that RAM bytes nothing has written read as, R362 -/
  ramDraw : Nat
  /-- MODEL'S OWN: the next unused draw of a free value -/
  draws : Nat
  /-- MODEL'S OWN: what the environment does next, oldest first, R70, R81 (a) -/
  pending : List Input
  /-- MODEL'S OWN: LATENCY of the next accepted commands, in order of acceptance; 0 when exhausted, R372 -/
  latencies : List Nat
  /-- MODEL'S OWN: the word the last host read returned, R70 -/
  readData : Word
  deriving DecidableEq, Repr

/-- QRC right after power-on reset (R45, R361), with nothing pending. `latencies`, `readData`, `ramDraw` and `draws` are
the model's own fields (assumption log entries 1, 5, 6, 7). -/
def State.reset : State where
  ieDone := false
  ieErr := false
  seq := .idle
  done := false
  err := false
  frameBuilt := false
  streamValid := false
  genValid := false
  placed := false
  selected := false
  symbolValid := false
  truncated := false
  cmd := 0
  version := 0
  eccLvl := 0
  plen := 0
  arg0 := 0
  arg1 := 0
  arg2 := 0
  result := 0
  errCode := .none
  usedLen := 0
  bestId := 0
  bestValid := false
  pen1 := 0
  pen2 := 0
  pen3 := 0
  pen4 := 0
  dark := 0
  scores := Vector.replicate 8 0
  arenaLimit := 0xFFFFFFFF
  arenaUsed := 0
  genLen := 0
  mem := []
  ramDraw := 0
  draws := 1
  pending := []
  latencies := []
  readData := 0

end Sys2Proof.Machine
end

