-- ==== Sys2Proof/Machine/Operands.lean ====
section
/-! DEFINITION. Every operand form of the commands (30_encoding.md R101, R102): the exact register bits each reads, and
the quantities CFG determines (00_scope.md R6; 10_state.md R33; 42_stream.md R172, R173). MID is the one operand of
the command word and comes decoded. -/

namespace Sys2Proof

/-- The number of blocks, s + L (R178). -/
def BlockEntry.blocks (e : BlockEntry) : Nat := e.short + e.long

/-- CAP = d·(s + L) + L (R172). -/
def BlockEntry.capacity (e : BlockEntry) : Nat := e.dataWidth * e.blocks + e.long

/-- TOTAL = CAP + e·(s + L) (R172). -/
def BlockEntry.total (e : BlockEntry) : Nat := e.capacity + e.eccWidth * e.blocks

namespace Machine

/-- GF_LOG's x = ARG0[7:0] (R137). -/
def State.logOperand (s : State) : Byte := s.arg0.extractLsb' 0 8

/-- GF_EXP's n = ARG0[31:0] (R138). -/
def State.expOperand (s : State) : Nat := s.arg0.toNat

/-- RS_GEN's e = ARG0[7:0] (R153). -/
def State.genDegree (s : State) : Nat := (s.arg0.extractLsb' 0 8).toNat

/-- RS_ENC's src = ARG0[11:0] (R155). -/
def State.encSource (s : State) : Nat := (s.arg0.extractLsb' 0 12).toNat

/-- RS_ENC's dst = ARG1[11:0] (R155). -/
def State.encDest (s : State) : Nat := (s.arg1.extractLsb' 0 12).toNat

/-- RS_ENC's n = ARG2[7:0] (R155). -/
def State.encLength (s : State) : Nat := (s.arg2.extractLsb' 0 8).toNat

/-- RS_ENC's e = GEN_LEN (R155). -/
def State.encDegree (s : State) : Nat := s.genLen.toNat

/-- v = CFG.VERSION (R29). -/
def State.ver (s : State) : Nat := s.version.toNat

/-- l = CFG.ECCLVL (R29). -/
def State.level (s : State) : Nat := s.eccLvl.toNat

/-- PLEN.LEN (R31). -/
def State.payloadLength (s : State) : Nat := s.plen.toNat

/-- VERSION is legal (R29): 1..40. -/
def State.cfgOk (s : State) : Bool := decide (1 ≤ s.ver) && decide (s.ver ≤ 40)

/-- W = 17 + 4·VERSION (R6). -/
def width (v : Nat) : Nat := 17 + 4 * v

/-- S = ceil(W / 8) (R6). -/
def stride (v : Nat) : Nat := (width v + 7) / 8

/-- Bytes of one packed matrix, W·S (R41, R201). -/
def matrixBytes (v : Nat) : Nat := width v * stride v

/-- H, the bytes the header and its 4-bit tail cost (R173). -/
def headerLength (v : Nat) : Nat := if v ≤ 9 then 2 else 3

/-- Bits of the length field (R173). -/
def lengthBits (v : Nat) : Nat := if v ≤ 9 then 8 else 16

/-- LIMIT = CAP − H (R173). DESIGN CHOICE (assumption log entry 16): 0 where a table gives a CAP below H. -/
def payloadLimit (v : Nat) (e : BlockEntry) : Nat := e.capacity - headerLength v

/-- The block-table entry of CFG (R33, R181). -/
def State.entry (P : Params) (s : State) : BlockEntry := P.blockTable s.ver s.level

/-- size = min(PLEN, LIMIT) (R174). -/
def State.encodedLength (P : Params) (s : State) : Nat :=
  min s.payloadLength (payloadLimit s.ver (s.entry P))

end Machine

end Sys2Proof
end

