-- ==== Sys2Proof/Machine/Flags.lean ====
section
/-! DEFINITION. Every status computation of the spec: STATUS and the interrupt output (10_state.md R26, 60_exceptions.md
R328), the packed registers (R25, R29, R33, R35), and the rules that clear session flags (R27). -/

namespace Sys2Proof.Machine

/-- STATUS.BUSY (R26): a command is accepted and not complete. -/
def State.busy (s : State) : Bool :=
  match s.seq with
  | .idle => false
  | .executing _ => true

/-- STATUS.IRQ and the interrupt output (R26, R328): (DONE ∧ IE_DONE) ∨ (ERR ∧ IE_ERR). -/
def State.irq (s : State) : Bool := (s.done && s.ieDone) || (s.err && s.ieErr)

/-- The STATUS word (R26): reserved bits [31:15] and [7:4] are 0. -/
def State.statusWord (s : State) : Word :=
  0#17 ++ BitVec.ofBool s.truncated ++ BitVec.ofBool s.symbolValid ++ BitVec.ofBool s.selected ++
    BitVec.ofBool s.placed ++ BitVec.ofBool s.genValid ++ BitVec.ofBool s.streamValid ++
    BitVec.ofBool s.frameBuilt ++ 0#4 ++ BitVec.ofBool s.irq ++ BitVec.ofBool s.err ++ BitVec.ofBool s.done ++
    BitVec.ofBool s.busy

/-- The CTRL word (R25): SRST reads 0. -/
def State.ctrlWord (s : State) : Word := 0#29 ++ BitVec.ofBool s.ieErr ++ BitVec.ofBool s.ieDone ++ 0#1

/-- The CFG word (R29). -/
def State.cfgWord (s : State) : Word := 0#22 ++ s.eccLvl ++ 0#2 ++ s.version

/-- The PLEN word (R31). -/
def State.plenWord (s : State) : Word := s.plen.setWidth 32

/-- CODE of an error (60_exceptions.md R321). -/
def ErrCode.code : ErrCode → BitVec 4
  | .none => 0
  | .badCmd => 1
  | .badCfg => 2
  | .badArg => 3
  | .seq => 4
  | .frameAlreadyBuilt => 5
  | .arenaExhausted => 6
  | .cfgLocked => 7
  | .busyWrite => 8

/-- The ERRCODE word (R32). -/
def State.errWord (s : State) : Word := s.errCode.code.setWidth 32

/-- CAP (R33). -/
def State.capWord (P : Params) (s : State) : Word :=
  if s.cfgOk then BitVec.ofNat 32 (s.entry P).capacity else 0

/-- TOTAL (R33). -/
def State.totalWord (P : Params) (s : State) : Word :=
  if s.cfgOk then BitVec.ofNat 32 (s.entry P).total else 0

/-- BLK (R33): e, d, L, s from the top byte down. -/
def State.blkWord (P : Params) (s : State) : Word :=
  if s.cfgOk then
    BitVec.ofNat 8 (s.entry P).eccWidth ++ BitVec.ofNat 8 (s.entry P).dataWidth ++
      BitVec.ofNat 8 (s.entry P).long ++ BitVec.ofNat 8 (s.entry P).short
  else 0

/-- GEOM (R33): S in [12:8], W in [7:0]. -/
def State.geomWord (s : State) : Word :=
  if s.cfgOk then 0#19 ++ BitVec.ofNat 5 (stride s.ver) ++ BitVec.ofNat 8 (width s.ver) else 0

/-- The USED_LEN word (R34). -/
def State.usedLenWord (s : State) : Word := s.usedLen.setWidth 32

/-- The BEST word (R35): VALID in bit 8, ID in [2:0]. -/
def State.bestWord (s : State) : Word := 0#23 ++ BitVec.ofBool s.bestValid ++ 0#5 ++ s.bestId

/-- The GEN_LEN word (R40). -/
def State.genLenWord (s : State) : Word := s.genLen.setWidth 32

/-- CFG is locked (R30): FRAME_BUILT or STREAM_VALID. -/
def State.cfgLocked (s : State) : Bool := s.frameBuilt || s.streamValid

/-- What FRAME_BUILD, PLACE, MASK_APPLY and a host write to BITMAP or RESERVED do to the flags (R27, R79). -/
def State.dropSelection (s : State) : State := { s with selected := false, symbolValid := false }

/-- FORMAT_EMBED's new SYMBOL_VALID (R272): SELECTED = 1, BEST.VALID = 1 and MID = BEST.ID. -/
def State.embedsWinner (s : State) (mid : Nat) : Bool :=
  s.selected && s.bestValid && decide (mid = s.bestId.toNat)

end Sys2Proof.Machine
end

