-- ==== Sys2Proof/Machine/Ops.lean ====
section
/-! DEFINITION. The shared operations: reading RAM bytes, allocation (10_state.md R37), raising an error and clearing it
(60_exceptions.md R320, R324, R331), completing a command (R28), and how a command's checks and effect combine (R320). -/

namespace Sys2Proof.Machine

/-- What the byte at a bus address of a RAM reads as. -/
def State.byteAt (s : State) (a : Nat) : Byte := Memory.byte s.ramDraw s.mem a

/-- Byte i of a RAM: PAYLOAD[i], STREAM[i], GEN[i] (00_scope.md R10). -/
def State.ram (s : State) (r : Ram) (i : Nat) : Byte := s.byteAt (r.addr i)

/-- Bytes start .. start + n − 1 of a RAM. -/
def State.ramBytes (s : State) (r : Ram) (start n : Nat) : List Byte :=
  (List.range n).map fun k => s.ram r (start + k)

/-- An allocation of n bytes succeeds iff ARENA_USED + n ≤ ARENA_LIMIT, unbounded (R37). -/
def State.allocFits (s : State) (n : Nat) : Bool := decide (s.arenaUsed.toNat + n ≤ s.arenaLimit.toNat)

/-- ARENA_USED after a successful allocation of n bytes (R37). -/
def State.usedAfter (s : State) (n : Nat) : Word := BitVec.ofNat 32 (s.arenaUsed.toNat + n)

/-- What every error records (R320, R324, R330): ERR, and ERRCODE if ERR was 0. -/
def State.noteError (e : ErrCode) (s : State) : State :=
  { s with err := true, errCode := if s.err then s.errCode else e }

/-- `raise Error(code)` (R320): the command ends, BUSY <- 0, DONE <- 1, nothing else is written. There is no handler,
vector or saved context: QRC returns to idle. -/
def State.raiseError (e : ErrCode) (s : State) : State :=
  { s.noteError e with seq := .idle, done := true }

/-- The only return there is (R331): writing 1 to STATUS.ERR clears ERR and ERRCODE. -/
def State.clearError (s : State) : State := { s with err := false, errCode := .none }

/-- Writing 1 to STATUS.DONE (R26). -/
def State.clearDone (s : State) : State := { s with done := false }

/-- A command completes without error (R28): BUSY <- 0, DONE <- 1. -/
def State.complete (s : State) : State := { s with seq := .idle, done := true }

/-- An illegal command word completes with BAD_CMD (30_encoding.md R103). -/
def State.rejectWord (s : State) : State := s.raiseError .badCmd

/-- What a command's pseudocode ends in: its writes done, or an error raised in the state it had reached (R320; for
ENCODE the completed sub-steps are kept, 46_session.md R293). -/
inductive CmdResult where
  | done (t : State)
  | failed (e : ErrCode) (t : State)
  deriving DecidableEq, Repr

/-- A command whose check finds no error writes its effect; otherwise it writes nothing (R320). -/
def guarded (check : Option ErrCode) (s t : State) : CmdResult :=
  match check with
  | none => .done t
  | some e => .failed e s

/-- `do X` after the sub-steps before it (R292, R293): an error ends the sequence. -/
def CmdResult.andThen (r : CmdResult) (f : State → CmdResult) : CmdResult :=
  match r with
  | .done t => f t
  | .failed e t => .failed e t

/-- Completion of a command, with or without error (R28, R320): always a next state. -/
def CmdResult.outcome (r : CmdResult) : Host.Outcome State Fault Refusal :=
  match r with
  | .done t => .next t.complete
  | .failed e t => .next (t.raiseError e)

end Sys2Proof.Machine
end

