-- ==== Sys2Proof/Machine/Matrix.lean ====
section
/-! DEFINITION. The packed bit matrices in BITMAP and RESERVED RAM (00_scope.md R9; 20_memory.md R72). -/

namespace Sys2Proof.Machine

/-- cell_byte(x, y) = y·S + (x >> 3) (R72). -/
def cellByte (S x y : Nat) : Nat := y * S + x / 8

/-- cell_bit(x, y) = 7 − (x & 7) (R72). -/
def cellBit (x : Nat) : Nat := 7 - x % 8

/-- A byte with one bit replaced: `(v & ~(1 << k)) | (b << k)` (R72). -/
def setBit (v : Byte) (k : Nat) (b : Bool) : Byte :=
  (v &&& ~~~(1#8 <<< k)) ||| ((BitVec.ofBool b).setWidth 8 <<< k)

/-- One matrix write `M(x, y) <- bit` (R9, R72). -/
structure CellWrite where
  x : Nat
  y : Nat
  bit : Bool
  deriving DecidableEq, Repr

/-- `M(x, y)` (R72). -/
def Memory.cell (fill : Nat) (r : Ram) (S : Nat) (m : Memory) (x y : Nat) : Bool :=
  (Memory.byte fill m (r.addr (cellByte S x y))).getLsbD (cellBit x)

/-- `M(x, y) <- bit` (R72). -/
def Memory.storeCell (fill : Nat) (r : Ram) (S : Nat) (m : Memory) (w : CellWrite) : Memory :=
  Memory.store m (r.addr (cellByte S w.x w.y))
    (setBit (Memory.byte fill m (r.addr (cellByte S w.x w.y))) (cellBit w.x) w.bit)

/-- Matrix writes in order. -/
def Memory.storeCells (fill : Nat) (r : Ram) (S : Nat) (m : Memory) (ws : List CellWrite) : Memory :=
  ws.foldl (Memory.storeCell fill r S) m

/-- Cell (x, y) of the current matrix in BITMAP or RESERVED RAM, with the stride of CFG (R41, R72). -/
def State.cell (s : State) (r : Ram) (x y : Nat) : Bool := Memory.cell s.ramDraw r (stride s.ver) s.mem x y

/-- Matrix writes to BITMAP or RESERVED RAM, with the stride of CFG. -/
def State.withCells (s : State) (r : Ram) (ws : List CellWrite) : Memory :=
  Memory.storeCells s.ramDraw r (stride s.ver) s.mem ws

/-- All cells, row by row (R250). -/
def allCells (W : Nat) : List (Nat × Nat) :=
  (List.range W).flatMap fun y => (List.range W).map fun x => (x, y)

/-- A W×W matrix read out, a list of rows: QRC's working copy (10_state.md R44). -/
abbrev Grid := List (List Bool)

/-- The rows of a matrix given by its cells. -/
def gridOf (W : Nat) (c : Nat → Nat → Bool) : Grid :=
  (List.range W).map fun y => (List.range W).map fun x => c x y

/-- Cell (x, y) of a grid. -/
def Grid.cell (g : Grid) (x y : Nat) : Bool := (g.getD y []).getD x false

/-- The current matrix of a RAM read out. -/
def State.grid (s : State) (r : Ram) : Grid := gridOf (width s.ver) (s.cell r)

end Sys2Proof.Machine
end

