-- ==== Sys2Proof/Machine/Penalty.lean ====
section
/-! DEFINITION. The penalty score of a matrix (45_mask_format.md R254–R259), on the matrix read out as a grid. -/

namespace Sys2Proof.Machine

/-- The run list of the rest of a line, in a run of colour `cur` of length n so far (R254). -/
def runsFrom (cur : Bool) (n : Nat) : List Bool → List Nat
  | [] => [n]
  | c :: cs => if c = cur then runsFrom cur (n + 1) cs else n :: runsFrom c 1 cs

/-- The run list r[0..h] of a line; r[0] is the leading light run, possibly 0 (R254). -/
def runList (line : List Bool) : List Nat := runsFrom false 0 line

/-- The rows and the columns of a grid (R255, R257). -/
def gridLines (W : Nat) (g : Grid) : List (List Bool) :=
  g ++ (List.range W).map fun x => g.map fun row => row.getD x false

/-- Rule 1 on one run list (R255). -/
def runsPenalty (r : List Nat) : Nat := (r.map fun n => if 5 ≤ n then 3 + (n - 5) else 0).sum

/-- The finder-like condition of rule 3 at index i of a run list r[0..h] (R257). -/
def finderLike (r : List Nat) (i : Nat) : Bool :=
  let at' := fun k => r.getD k 0
  let h := r.length - 1
  let u := at' (i - 1)
  at' (i - 2) == u && at' (i + 1) == u && at' (i + 2) == u && at' i == 3 * u &&
    ((at' (i - 3) == 0 || decide (4 * at' i ≤ 3 * at' (i - 3))) ||
     (decide (h < i + 3) || decide (4 * at' i ≤ 3 * at' (i + 3))))

/-- Rule 3 on one run list: every odd i with 3 ≤ i ≤ h − 2 (R257). -/
def findersPenalty (r : List Nat) : Nat :=
  ((List.range r.length).map fun i =>
    if i % 2 = 1 ∧ 3 ≤ i ∧ i + 2 ≤ r.length - 1 ∧ finderLike r i = true then 40 else 0).sum

/-- Rule 2 on two neighbouring rows (R256). -/
def rowBlocks : List Bool → List Bool → Nat
  | a :: b :: as, c :: d :: cs =>
    (if a = b ∧ b = c ∧ c = d then 3 else 0) + rowBlocks (b :: as) (d :: cs)
  | _, _ => 0

/-- Rule 2 (R256): every overlapping 2×2 block. -/
def blocksPenalty : Grid → Nat
  | r0 :: r1 :: rows => rowBlocks r0 r1 + blocksPenalty (r1 :: rows)
  | _ => 0

/-- D, the number of dark cells (R258). -/
def darkCount (g : Grid) : Nat := (g.map fun row => row.count true).sum

/-- Rule 4 (R258): 10·floor(10·|2D − N| / N). -/
def balancePenalty (W D : Nat) : Nat := 10 * (10 * ((2 * D - W * W) + (W * W - 2 * D)) / (W * W))

/-- The four penalties and the dark count (R260). -/
structure Penalty where
  p1 : Nat
  p2 : Nat
  p3 : Nat
  p4 : Nat
  dark : Nat
  deriving DecidableEq, Repr

/-- Rules 1 to 4 on a W×W matrix (R255–R258). -/
def penalties (W : Nat) (g : Grid) : Penalty where
  p1 := ((gridLines W g).map fun l => runsPenalty (runList l)).sum
  p2 := blocksPenalty g
  p3 := ((gridLines W g).map fun l => findersPenalty (runList l)).sum
  p4 := balancePenalty W (darkCount g)
  dark := darkCount g

/-- score = P1 + P2 + P3 + P4 (R259). -/
def Penalty.total (p : Penalty) : Nat := p.p1 + p.p2 + p.p3 + p.p4

end Sys2Proof.Machine
end

