-- ==== Sys2Proof/Machine/Mask.lean ====
section
/-! DEFINITION. Masks and mask selection: MASK_APPLY, MASK_SCORE, MASK_SELECT (45_mask_format.md R250–R262). -/

namespace Sys2Proof.Machine

/-- Cell (x, y) of a matrix after mask m (R250): inverted where the cell is free and the predicate holds. -/
def maskedCell (P : Params) (m : Nat) (reserved bitmap : Nat → Nat → Bool) (x y : Nat) : Bool :=
  if reserved x y = false ∧ P.maskPred m x y = true then !bitmap x y else bitmap x y

/-- The matrix writes of mask(m) (R250): the cells it inverts, with their new values. -/
def State.maskWrites (P : Params) (s : State) (m : Nat) : List CellWrite :=
  ((allCells (width s.ver)).filter fun c => !s.cell .reserved c.1 c.2 && P.maskPred m c.1 c.2).map
    fun c => ⟨c.1, c.2, !s.cell .bitmap c.1 c.2⟩

/-- The checks of MASK_APPLY, MASK_SCORE, MASK_SELECT and FORMAT_EMBED (R252, R260, R261, R272). -/
def frameCheck (s : State) : Option ErrCode :=
  if s.cfgOk = false then some .badCfg
  else if s.frameBuilt = false then some .seq
  else none

/-- The writes of MASK_APPLY (R252). -/
def maskApplyEffect (P : Params) (m : Nat) (s : State) : State :=
  { s.dropSelection with mem := s.withCells .bitmap (s.maskWrites P m) }

/-- MASK_APPLY's pseudocode (R252). -/
def maskApply (P : Params) (m : Nat) (s : State) : CmdResult := guarded (frameCheck s) s (maskApplyEffect P m s)

/-- MASK_APPLY m (R252). -/
def execMaskApply (m : Nat) (s : State) : Host.Outcome State Fault Refusal := (maskApply stdParams m s).outcome

/-- The penalties of BITMAP as it stands (R260). -/
def State.penalty (s : State) : Penalty := penalties (width s.ver) (s.grid .bitmap)

/-- The writes of MASK_SCORE (R260). -/
def maskScoreEffect (s : State) : State :=
  { s with
    pen1 := BitVec.ofNat 32 s.penalty.p1
    pen2 := BitVec.ofNat 32 s.penalty.p2
    pen3 := BitVec.ofNat 32 s.penalty.p3
    pen4 := BitVec.ofNat 32 s.penalty.p4
    dark := BitVec.ofNat 32 s.penalty.dark
    result := BitVec.ofNat 32 s.penalty.total }

/-- MASK_SCORE (R260). -/
def execMaskScore (s : State) : Host.Outcome State Fault Refusal :=
  (guarded (frameCheck s) s (maskScoreEffect s)).outcome

/-- The total penalty of a matrix under mask m (R261), from the pre-mask copy and RESERVED read out once. -/
def scoreOfMask (P : Params) (W : Nat) (reserved base : Grid) (m : Nat) : Nat :=
  (penalties W (gridOf W (maskedCell P m reserved.cell base.cell))).total

/-- S[0..7] (R261). -/
def State.maskScores (P : Params) (s : State) : List Nat :=
  let reserved := s.grid .reserved
  let base := s.grid .bitmap
  (List.range 8).map (scoreOfMask P (width s.ver) reserved base)

/-- The least m with S[m] = min(S[0..7]) (R261, R262). -/
def leastMin (S : List Nat) : Nat :=
  ((List.range 8).find? fun m => (List.range 8).all fun k => decide (S.getD m 0 ≤ S.getD k 0)).getD 0

/-- The writes of MASK_SELECT (R261): the winner's mask is applied to the pre-mask matrix. -/
def maskSelectEffect (P : Params) (s : State) : State :=
  let S := s.maskScores P
  let best := leastMin S
  { s with
    mem := s.withCells .bitmap (s.maskWrites P best)
    scores := Vector.ofFn fun m => BitVec.ofNat 32 (S.getD m.val 0)
    bestId := BitVec.ofNat 3 best
    bestValid := true
    result := BitVec.ofNat 32 (S.getD best 0)
    selected := true
    symbolValid := false }

/-- MASK_SELECT's pseudocode (R261). -/
def maskSelect (P : Params) (s : State) : CmdResult := guarded (frameCheck s) s (maskSelectEffect P s)

/-- MASK_SELECT (R261). -/
def execMaskSelect (s : State) : Host.Outcome State Fault Refusal := (maskSelect stdParams s).outcome

end Sys2Proof.Machine
end

