-- ==== Sys2Proof/Machine/Format.lean ====
section
/-! DEFINITION. The format embedder, FORMAT_EMBED (45_mask_format.md R270–R272). -/

namespace Sys2Proof.Machine

/-- cellA(k) (R271). -/
def cellA (W k : Nat) : Nat × Nat := if k < 8 then (W - 1 - k, 8) else (8, W - 7 + (k - 8))

/-- cellB(k) (R271): skips (8, 6) and (6, 8). -/
def cellB (k : Nat) : Nat × Nat :=
  if k < 6 then (8, k) else if k < 8 then (8, k + 1) else if k = 8 then (7, 8) else (6 - (k - 8), 8)

/-- The matrix writes of a format word (R272): bit k to cellA(k) and cellB(k). -/
def formatWrites (W : Nat) (f : BitVec 15) : List CellWrite :=
  (List.range 15).flatMap fun k =>
    [⟨(cellA W k).1, (cellA W k).2, f.getLsbD k⟩, ⟨(cellB k).1, (cellB k).2, f.getLsbD k⟩]

/-- The writes of FORMAT_EMBED (R272). -/
def formatEmbedEffect (P : Params) (m : Nat) (s : State) : State :=
  { s with
    mem := s.withCells .bitmap (formatWrites (width s.ver) (P.formatWord s.level m))
    symbolValid := s.embedsWinner m }

/-- FORMAT_EMBED's pseudocode (R272). -/
def formatEmbed (P : Params) (m : Nat) (s : State) : CmdResult := guarded (frameCheck s) s (formatEmbedEffect P m s)

/-- FORMAT_EMBED m (R272). -/
def execFormatEmbed (m : Nat) (s : State) : Host.Outcome State Fault Refusal := (formatEmbed stdParams m s).outcome

end Sys2Proof.Machine
end

