-- ==== Sys2Proof/Machine/Frame.lean ====
section
/-! DEFINITION. The symbol frame stamper, FRAME_BUILD (43_frame.md). Patterns are lists of `put(x, y, b)` (R202). -/

namespace Sys2Proof.Machine

/-- |a − b|. -/
def absDiff (a b : Nat) : Nat := (a - b) + (b - a)

/-- A finder pattern with origin (ox, oy) (R203). -/
def finder (ox oy : Nat) : List CellWrite :=
  (List.range 7).flatMap fun dy => (List.range 7).map fun dx =>
    ⟨ox + dx, oy + dy, max (absDiff dx 3) (absDiff dy 3) != 2⟩

/-- The three finder patterns (R203). -/
def finders (W : Nat) : List CellWrite := finder 0 0 ++ finder (W - 7) 0 ++ finder 0 (W - 7)

/-- The separators (R204). -/
def separators (W : Nat) : List CellWrite :=
  (List.range 8).flatMap fun k =>
    [⟨7, k, false⟩, ⟨k, 7, false⟩, ⟨W - 8, k, false⟩, ⟨W - 1 - k, 7, false⟩, ⟨7, W - 1 - k, false⟩, ⟨k, W - 8, false⟩]

/-- The alignment pattern centred on (cx, cy) (R205). DESIGN CHOICE (assumption log entry 16): a coordinate that would be
below 0, which only another ALIGN_DELTA can give, is 0. -/
def align (cx cy : Nat) : List CellWrite :=
  (List.range 5).flatMap fun dy => (List.range 5).map fun dx =>
    ⟨cx + dx - 2, cy + dy - 2, max (absDiff dx 2) (absDiff dy 2) != 1⟩

/-- The inner loop of the alignment walk (R206) from x along row y; `fuel` bounds its rounds, and for t ≥ 1 cuts none off
(`alignRow_fuel`). DESIGN CHOICE (assumption log entry 16): with t below 3, t − 3 is 0, and with t = 0 the walk, endless in
R206, ends when the fuel does. -/
def alignRow (t y : Nat) : Nat → Nat → List (Nat × Nat)
  | 0, _ => []
  | fuel + 1, x =>
    if x > t - 3 then
      (x, y) :: (if x < t then [] else alignRow t y fuel (x - t))
    else []

/-- The outer loop of the alignment walk (R206) from row y; for t ≥ 1 the fuel cuts no round off (`alignRows_fuel`). DESIGN
CHOICE (assumption log entry 16): with t = 0 the walk ends when the fuel does. -/
def alignRows (W t : Nat) : Nat → Nat → List (Nat × Nat)
  | 0, _ => []
  | fuel + 1, y =>
    alignRow t y W (W - 7) ++
      (if y ≤ t + 9 then [] else (6, y - t) :: (y - t, 6) :: alignRows W t fuel (y - t))

/-- The alignment centres of a version (R206); none for version 1. -/
def alignCentres (P : Params) (v : Nat) : List (Nat × Nat) :=
  if 2 ≤ v then alignRows (width v) (P.alignDelta v) (width v) (width v - 7) else []

/-- The alignment patterns (R205, R206). -/
def alignments (P : Params) (v : Nat) : List CellWrite := (alignCentres P v).flatMap fun c => align c.1 c.2

/-- The dark module (R207). -/
def darkModule (W : Nat) : List CellWrite := [⟨8, W - 8, true⟩]

/-- The timing strips (R208): k in 8..W−9. -/
def timing (W : Nat) : List CellWrite :=
  (List.range (W - 16)).flatMap fun j => [⟨j + 8, 6, (j + 8) % 2 == 0⟩, ⟨6, j + 8, (j + 8) % 2 == 0⟩]

/-- The version information, for v ≥ 7 (R210). -/
def versionInfo (P : Params) (v : Nat) : List CellWrite :=
  if 7 ≤ v then
    (List.range 18).flatMap fun k =>
      [⟨k / 3, width v - 11 + k % 3, (P.versionWord v).getLsbD k⟩, ⟨width v - 11 + k % 3, k / 3, (P.versionWord v).getLsbD k⟩]
  else []

/-- The format reservation (R211). -/
def formatStrips (W : Nat) : List CellWrite :=
  ((List.range 9).flatMap fun k => [⟨k, 8, false⟩, ⟨8, k, false⟩]) ++
    ((List.range 8).map fun k => ⟨W - 1 - k, 8, false⟩) ++ ((List.range 7).map fun k => ⟨8, W - 1 - k, false⟩)

/-- Every `put` of the frame, in the order of R200. -/
def framePuts (P : Params) (v : Nat) : List CellWrite :=
  finders (width v) ++ separators (width v) ++ alignments P v ++ darkModule (width v) ++ timing (width v) ++
    versionInfo P v ++ formatStrips (width v)

/-- What `put` writes to BITMAP (R202): only pattern bits that are 1. -/
def bitmapPuts (ps : List CellWrite) : List CellWrite := ps.filter fun w => w.bit

/-- What `put` writes to RESERVED (R202). -/
def reservedPuts (ps : List CellWrite) : List CellWrite := ps.map fun w => { w with bit := true }

/-- The bytes FRAME_BUILD allocates, 2·W·S (R201). -/
def State.frameCharge (s : State) : Nat := 2 * matrixBytes s.ver

/-- The checks of FRAME_BUILD (R200). -/
def frameBuildCheck (s : State) : Option ErrCode :=
  if s.cfgOk = false then some .badCfg
  else if s.frameBuilt then some .frameAlreadyBuilt
  else if s.allocFits s.frameCharge = false then some .arenaExhausted
  else none

/-- Both matrices zeroed (R201), then stamped (R202). -/
def State.framed (P : Params) (s : State) : Memory :=
  let zeros := List.replicate (matrixBytes s.ver) (0 : Byte)
  let m := Memory.storeBytes (Memory.storeBytes s.mem (Ram.bitmap.addr 0) zeros) (Ram.reserved.addr 0) zeros
  let m := Memory.storeCells s.ramDraw .bitmap (stride s.ver) m (bitmapPuts (framePuts P s.ver))
  Memory.storeCells s.ramDraw .reserved (stride s.ver) m (reservedPuts (framePuts P s.ver))

/-- The writes of FRAME_BUILD (R200). -/
def frameBuildEffect (P : Params) (s : State) : State :=
  { s.dropSelection with
    mem := s.framed P
    arenaUsed := s.usedAfter s.frameCharge
    frameBuilt := true }

/-- FRAME_BUILD's pseudocode (R200). -/
def frameBuild (P : Params) (s : State) : CmdResult := guarded (frameBuildCheck s) s (frameBuildEffect P s)

/-- FRAME_BUILD (R200). -/
def execFrameBuild (s : State) : Host.Outcome State Fault Refusal := (frameBuild stdParams s).outcome

end Sys2Proof.Machine
end

