-- ==== Sys2Proof/Machine/Gf.lean ====
section
/-! DEFINITION. GF(256) arithmetic over the LOG and EXP ROMs, GF_LOG and GF_EXP (40_gf.md). -/

namespace Sys2Proof.Machine

/-- gexp(n) = EXP[mod255(n)] (R134, R135). -/
def gexp (n : Nat) : Byte := expRom (n % 255)

/-- Field multiplication (R136): zero is special-cased, never computed through LOG[0]. -/
def gmul (a b : Byte) : Byte :=
  if a = 0 ∨ b = 0 then 0 else gexp ((logRom a.toNat).toNat + (logRom b.toNat).toNat)

/-- GF_LOG (R137): RESULT <- zext_32(LOG[ARG0[7:0]]). -/
def gfLogEffect (s : State) : State := { s with result := (logRom s.logOperand.toNat).setWidth 32 }

/-- GF_EXP (R138): RESULT <- zext_32(EXP[mod255(ARG0)]). -/
def gfExpEffect (s : State) : State := { s with result := (gexp s.expOperand).setWidth 32 }

/-- GF_LOG (R137). -/
def execGfLog (s : State) : Host.Outcome State Fault Refusal := (CmdResult.done (gfLogEffect s)).outcome

/-- GF_EXP (R138). -/
def execGfExp (s : State) : Host.Outcome State Fault Refusal := (CmdResult.done (gfExpEffect s)).outcome

end Sys2Proof.Machine
end

