-- ==== Sys2Proof/Machine/Rs.lean ====
section
/-! DEFINITION. Reed–Solomon generator synthesis and the LFSR encoder, RS_GEN and RS_ENC (41_rs.md). -/

namespace Sys2Proof.Machine

/-- The coefficients of c(x)·(x + r), constant term first (the inner loop of R153). -/
def timesRoot (c : List Byte) (r : Byte) : List Byte :=
  List.zipWith (· ^^^ ·) (0 :: c) (c.map (fun a => gmul a r) ++ [0])

/-- The coefficients c_0 .. c_e of the generator polynomial of degree e (R150, R153). -/
def genPoly : Nat → List Byte
  | 0 => [1]
  | e + 1 => timesRoot (genPoly e) (expRom e)

/-- The GEN image of degree e: GEN[k] = LOG[c_k] for k in 0..e (R151). -/
def genImage (e : Nat) : List Byte := (genPoly e).map fun c => logRom c.toNat

/-- One data byte through the LFSR (R154). `gs` is GEN[e−1], …, GEN[0]; the register's head is its first element. -/
def lfsrStep (gs reg : List Byte) (d : Byte) : List Byte :=
  let fb := logRom (d ^^^ reg.headD 0).toNat
  let shifted := (reg ++ [0]).tail
  if fb = 255 then shifted
  else List.zipWith (fun r g => r ^^^ gexp (fb.toNat + g.toNat)) shifted gs

/-- `rs_encode(data, e)` with the generator logs GEN[0..] (R154). -/
def rsEncode (gens : List Byte) (e : Nat) (data : List Byte) : List Byte :=
  data.foldl (lfsrStep (gens.take e).reverse) (List.replicate e 0)

/-- The check of RS_GEN (R153): e in 1..68. -/
def rsGenCheck (s : State) : Option ErrCode :=
  if 1 ≤ s.genDegree ∧ s.genDegree ≤ 68 then none else some .badArg

/-- The writes of RS_GEN (R153). -/
def rsGenEffect (s : State) : State :=
  { s with
    mem := Memory.storeBytes s.mem (Ram.gen.addr 0) (genImage s.genDegree)
    genLen := BitVec.ofNat 7 s.genDegree
    genValid := true }

/-- RS_GEN (R153). -/
def execRsGen (s : State) : Host.Outcome State Fault Refusal := (guarded (rsGenCheck s) s (rsGenEffect s)).outcome

/-- The checks of RS_ENC (R155), SEQ before BAD_ARG (R323). -/
def rsEncCheck (s : State) : Option ErrCode :=
  if s.genValid = false then some .seq
  else if 4096 < s.encSource + s.encLength ∨ 4096 < s.encDest + s.encDegree then some .badArg
  else none

/-- The ECC bytes RS_ENC computes from STREAM[src..src+n−1] (R155). -/
def State.encoded (s : State) : List Byte :=
  rsEncode (s.ramBytes .gen 0 s.encDegree) s.encDegree (s.ramBytes .stream s.encSource s.encLength)

/-- The writes of RS_ENC (R155): the source range is read before the destination is written. -/
def rsEncEffect (s : State) : State :=
  { s with mem := Memory.storeBytes s.mem (Ram.stream.addr s.encDest) s.encoded }

/-- RS_ENC (R155). -/
def execRsEnc (s : State) : Host.Outcome State Fault Refusal := (guarded (rsEncCheck s) s (rsEncEffect s)).outcome

end Sys2Proof.Machine
end

