-- ==== Sys2Proof/Machine/Stream.lean ====
section
/-! DEFINITION. The data-stream assembler, STREAM_BUILD (42_stream.md). -/

namespace Sys2Proof.Machine

/-- The w bits of a number, most significant first (R176). -/
def bitsOf (w n : Nat) : List Bool := (List.range w).map fun k => n.testBit (w - 1 - k)

/-- A byte from its bits, bit 7 first. -/
def byteOfBits (b7 b6 b5 b4 b3 b2 b1 b0 : Bool) : Byte :=
  BitVec.ofBool b7 ++ BitVec.ofBool b6 ++ BitVec.ofBool b5 ++ BitVec.ofBool b4 ++
    BitVec.ofBool b3 ++ BitVec.ofBool b2 ++ BitVec.ofBool b1 ++ BitVec.ofBool b0

/-- Pack bits 8 per byte, the first into bit 7 (R176). -/
def packBits : List Bool → List Byte
  | b7 :: b6 :: b5 :: b4 :: b3 :: b2 :: b1 :: b0 :: rest => byteOfBits b7 b6 b5 b4 b3 b2 b1 b0 :: packBits rest
  | _ => []

/-- The bits of bytes, MSB first (R176, 44_place.md R232). -/
def bytesToBits (bs : List Byte) : List Bool := bs.flatMap fun b => bitsOf 8 b.toNat

/-- The bit string of header, payload and tail (R176). DESIGN CHOICE (assumption log entry 16): of a size that the length
field cannot hold, which only a BLOCK_TABLE with a CAP above 257 for v ≤ 9 can give, the field takes the low 8 bits. -/
def headerBits (P : Params) (v : Nat) (payload : List Byte) : List Bool :=
  bitsOf 4 P.modeNibble.toNat ++ bitsOf (lengthBits v) payload.length ++ bytesToBits payload ++ bitsOf 4 0

/-- n pad bytes: 0xEC, 0x11, 0xEC, … (R177). -/
def padBytes (n : Nat) : List Byte := (List.range n).map fun k => if k % 2 = 0 then 0xEC else 0x11

/-- data[0..CAP−1] (R176, R177). -/
def dataWords (P : Params) (v : Nat) (e : BlockEntry) (payload : List Byte) : List Byte :=
  packBits (headerBits P v payload) ++ padBytes (e.capacity - (payload.length + headerLength v))

/-- off(b) = b·d + max(0, b − s) (R178). -/
def blockOffset (e : BlockEntry) (b : Nat) : Nat := b * e.dataWidth + (b - e.short)

/-- Data bytes of block b: d for a short block, d + 1 for a long one (R178). -/
def blockLength (e : BlockEntry) (b : Nat) : Nat := if b < e.short then e.dataWidth else e.dataWidth + 1

/-- The blocks of the data, short ones first (R178). -/
def dataBlocks (e : BlockEntry) (data : List Byte) : List (List Byte) :=
  (List.range e.blocks).map fun b => (data.drop (blockOffset e b)).take (blockLength e b)

/-- The ECC bytes of every block, one generator for all (R179). -/
def eccBlocks (e : BlockEntry) (blocks : List (List Byte)) : List (List Byte) :=
  blocks.map (rsEncode (genImage e.eccWidth) e.eccWidth)

/-- The interleaved codeword sequence (R180). -/
def interleave (e : BlockEntry) (blocks eccs : List (List Byte)) : List Byte :=
  (List.range e.dataWidth).flatMap (fun i => blocks.map fun b => b.getD i 0) ++
    (blocks.drop e.short).map (fun b => b.getD e.dataWidth 0) ++
    (List.range e.eccWidth).flatMap (fun k => eccs.map fun c => c.getD k 0)

/-- out[0..TOTAL−1] for a payload (R176–R180). -/
def codewords (P : Params) (v : Nat) (e : BlockEntry) (payload : List Byte) : List Byte :=
  let blocks := dataBlocks e (dataWords P v e payload)
  interleave e blocks (eccBlocks e blocks)

/-- The payload bytes encoded, PAYLOAD[0..size−1] (R174). -/
def State.payloadBytes (P : Params) (s : State) : List Byte := s.ramBytes .payload 0 (s.encodedLength P)

/-- The codeword sequence STREAM_BUILD writes (R181). -/
def State.streamOut (P : Params) (s : State) : List Byte := codewords P s.ver (s.entry P) (s.payloadBytes P)

/-- The checks of STREAM_BUILD (R181). -/
def streamBuildCheck (P : Params) (s : State) : Option ErrCode :=
  if s.cfgOk = false then some .badCfg
  else if s.allocFits (s.entry P).total = false then some .arenaExhausted
  else none

/-- The writes of STREAM_BUILD (R181, R182). -/
def streamBuildEffect (P : Params) (s : State) : State :=
  { s with
    mem := Memory.storeBytes (Memory.storeBytes s.mem (Ram.gen.addr 0) (genImage (s.entry P).eccWidth))
      (Ram.stream.addr 0) (s.streamOut P)
    arenaUsed := s.usedAfter (s.entry P).total
    genLen := BitVec.ofNat 7 (s.entry P).eccWidth
    usedLen := BitVec.ofNat 12 (s.encodedLength P)
    truncated := decide (payloadLimit s.ver (s.entry P) < s.payloadLength)
    genValid := true
    streamValid := true }

/-- STREAM_BUILD's pseudocode (R181). -/
def streamBuild (P : Params) (s : State) : CmdResult := guarded (streamBuildCheck P s) s (streamBuildEffect P s)

/-- STREAM_BUILD (R181). -/
def execStreamBuild (s : State) : Host.Outcome State Fault Refusal := (streamBuild stdParams s).outcome

end Sys2Proof.Machine
end

