-- ==== Sys2Proof/Machine/Place.lean ====
section
/-! DEFINITION. The zig-zag placement path, PLACE (44_place.md). -/

namespace Sys2Proof.Machine

/-- The column bands from column `col` (R231): the right column of each band and whether it runs up; the timing column
6 is skipped. `fuel` bounds the number of bands. -/
def bands : Nat → Nat → Bool → List (Nat × Bool)
  | 0, _, _ => []
  | fuel + 1, col, up =>
    if col = 0 then []
    else
      let c := if col = 6 then 5 else col
      (c, up) :: bands fuel (c - 2) (!up)

/-- The cells of one band in walking order (R231). -/
def bandCells (W : Nat) (band : Nat × Bool) : List (Nat × Nat) :=
  (if band.2 then (List.range W).reverse else List.range W).flatMap fun y => [(band.1, y), (band.1 - 1, y)]

/-- The walk, reserved cells included (R231). -/
def walk (W : Nat) : List (Nat × Nat) := (bands W (W - 1) true).flatMap (bandCells W)

/-- The placement path: the free cells of the walk (R231). -/
def path (W : Nat) (reserved : Nat → Nat → Bool) : List (Nat × Nat) := (walk W).filter fun c => !reserved c.1 c.2

/-- Deposit bits along a path; cells left after the last bit get 0 (R232, R233). -/
def deposit : List (Nat × Nat) → List Bool → List CellWrite
  | [], _ => []
  | c :: cs, [] => ⟨c.1, c.2, false⟩ :: deposit cs []
  | c :: cs, b :: bs => ⟨c.1, c.2, b⟩ :: deposit cs bs

/-- The bits PLACE deposits: STREAM[0..TOTAL−1], MSB first (R232). -/
def State.streamBits (P : Params) (s : State) : List Bool := bytesToBits (s.ramBytes .stream 0 (s.entry P).total)

/-- The path of the current matrix. -/
def State.path (s : State) : List (Nat × Nat) := Machine.path (width s.ver) (s.cell .reserved)

/-- The matrix writes of PLACE (R230). -/
def State.placeWrites (P : Params) (s : State) : List CellWrite := deposit s.path (s.streamBits P)

/-- The checks of PLACE (R230). -/
def placeCheck (s : State) : Option ErrCode :=
  if s.cfgOk = false then some .badCfg
  else if s.frameBuilt = false ∨ s.streamValid = false then some .seq
  else none

/-- The writes of PLACE (R230). -/
def placeEffect (P : Params) (s : State) : State :=
  { s.dropSelection with mem := s.withCells .bitmap (s.placeWrites P), placed := true }

/-- PLACE's pseudocode (R230). -/
def place (P : Params) (s : State) : CmdResult := guarded (placeCheck s) s (placeEffect P s)

/-- PLACE (R230). -/
def execPlace (s : State) : Host.Outcome State Fault Refusal := (place stdParams s).outcome

end Sys2Proof.Machine
end

