-- ==== Sys2Proof/Machine/Session.lean ====
section
/-! DEFINITION. Session control: NOP, SESSION_BEGIN, ENCODE (46_session.md). -/

namespace Sys2Proof.Machine

/-- NOP (R290): nothing but DONE. -/
def execNop (s : State) : Host.Outcome State Fault Refusal := (CmdResult.done s).outcome

/-- The writes of SESSION_BEGIN (R291). -/
def sessionBeginEffect (s : State) : State :=
  { s with
    frameBuilt := false
    streamValid := false
    genValid := false
    placed := false
    selected := false
    symbolValid := false
    truncated := false
    bestId := 0
    bestValid := false
    usedLen := 0
    pen1 := 0
    pen2 := 0
    pen3 := 0
    pen4 := 0
    dark := 0
    scores := Vector.replicate 8 0
    arenaUsed := 0 }

/-- SESSION_BEGIN (R291). -/
def execSessionBegin (s : State) : Host.Outcome State Fault Refusal := (CmdResult.done (sessionBeginEffect s)).outcome

/-- The up-front checks of ENCODE (R292). -/
def encodeCheck (s : State) : Option ErrCode :=
  if s.cfgOk = false then some .badCfg
  else if s.frameBuilt then some .frameAlreadyBuilt
  else none

/-- ENCODE's pseudocode (R292): the sub-steps in order, each with its own checks; an error ends it and keeps what the
earlier sub-steps did (R293). -/
def encodeAll (P : Params) (s : State) : CmdResult :=
  ((((guarded (encodeCheck s) s s).andThen (streamBuild P)).andThen (frameBuild P)).andThen (place P)).andThen
    fun t => (maskSelect P t).andThen fun u => formatEmbed P u.bestId.toNat u

/-- ENCODE (R292, R293). -/
def execEncode (s : State) : Host.Outcome State Fault Refusal := (encodeAll stdParams s).outcome

end Sys2Proof.Machine
end

