-- ==== Sys2Proof/Machine/Abort.lean ====
section
/-! DEFINITION. Resets (70_reset_and_hazards.md R360–R363): the RAM bytes an accepted command would write, soft reset, and
power-on reset during a run. -/

namespace Sys2Proof.Machine

/-- Addresses of bytes start .. start + n − 1 of a RAM. -/
def Ram.addrs (r : Ram) (start n : Nat) : List Nat := (List.range n).map fun k => r.addr (start + k)

/-- Addresses of the bytes that matrix writes touch. -/
def cellAddrs (r : Ram) (S : Nat) (ws : List CellWrite) : List Nat := ws.map fun w => r.addr (cellByte S w.x w.y)

/-- The bytes a command writes if its checks pass, none otherwise. -/
def ifPasses (check : Option ErrCode) (as : List Nat) : List Nat :=
  match check with
  | none => as
  | some _ => []

/-- The bytes STREAM_BUILD writes (R181). -/
def streamFootprint (P : Params) (s : State) : List Nat :=
  ifPasses (streamBuildCheck P s)
    (Ram.gen.addrs 0 ((s.entry P).eccWidth + 1) ++ Ram.stream.addrs 0 (s.entry P).total)

/-- The bytes FRAME_BUILD writes (R201). -/
def frameFootprint (s : State) : List Nat :=
  ifPasses (frameBuildCheck s)
    (Ram.bitmap.addrs 0 (matrixBytes s.ver) ++ Ram.reserved.addrs 0 (matrixBytes s.ver))

/-- Every RAM byte the command's rule would write in this state (R363, assumption log entry 3). MASK_SELECT assigns the
whole of BITMAP (R261). PLACE, MASK_SELECT and FORMAT_EMBED in ENCODE write only bytes FRAME_BUILD has written. -/
def footprint (P : Params) (i : Instr) (s : State) : List Nat :=
  match i with
  | .nop | .gfLog | .gfExp | .maskScore | .sessionBegin => []
  | .rsGen => ifPasses (rsGenCheck s) (Ram.gen.addrs 0 (s.genDegree + 1))
  | .rsEnc => ifPasses (rsEncCheck s) (Ram.stream.addrs s.encDest s.encDegree)
  | .streamBuild => streamFootprint P s
  | .frameBuild => frameFootprint s
  | .place => ifPasses (placeCheck s) (cellAddrs .bitmap (stride s.ver) (s.placeWrites P))
  | .maskApply m => ifPasses (frameCheck s) (cellAddrs .bitmap (stride s.ver) (s.maskWrites P m))
  | .maskSelect => ifPasses (frameCheck s) (Ram.bitmap.addrs 0 (matrixBytes s.ver))
  | .formatEmbed m =>
    ifPasses (frameCheck s)
      (cellAddrs .bitmap (stride s.ver) (formatWrites (width s.ver) (P.formatWord s.level m)))
  | .encode =>
    ifPasses (encodeCheck s)
      (streamFootprint P s ++
        (match streamBuild P s with
         | .done t => frameFootprint t
         | .failed _ _ => []))

/-- The RAM bytes an abort leaves unspecified: those the command in CMD would have written, none when idle (R363). -/
def State.abortFootprint (P : Params) (s : State) : List Nat :=
  match s.seq with
  | .idle => []
  | .executing _ =>
    match decode s.cmd with
    | .ok i => footprint P i s
    | .error _ => []

/-- The registers of a reset (R45, R361) over given RAM contents; the environment's own fields go on. -/
def State.resetOver (s : State) (mem : Memory) (ramDraw draws : Nat) : State :=
  { State.reset with
    mem := mem
    ramDraw := ramDraw
    draws := draws
    pending := s.pending
    latencies := s.latencies
    readData := s.readData }

/-- Soft reset (R25, R361): registers to their reset values; RAM unchanged if BUSY was 0, and if BUSY was 1 the bytes
the aborted command would have written become unspecified (R363). -/
def State.softReset (P : Params) (s : State) : State :=
  match s.seq with
  | .idle => s.resetOver s.mem s.ramDraw s.draws
  | .executing _ => s.resetOver (Memory.forget s.draws (s.abortFootprint P) s.mem) s.ramDraw (s.draws + 1)

/-- Power-on reset (R360–R362): every register at its reset value, all RAM contents unspecified anew. -/
def State.powerOnReset (s : State) : State := s.resetOver [] s.draws (s.draws + 1)

end Sys2Proof.Machine
end

