-- ==== Sys2Proof/Machine/Bus.lean ====
section
/-! DEFINITION. The host bus (20_memory.md; 10_state.md R21, R22): the address map, what a read returns, what a write does,
command acceptance (R28), the environment's turn, and one step of the sequencer. -/

namespace Sys2Proof.Machine

/-- The registers of R21. -/
inductive Reg where
  | id
  | ctrl
  | status
  | cmd
  | cfg
  | plen
  | arg0
  | arg1
  | arg2
  | result
  | errcode
  | cap
  | total
  | blk
  | geom
  | usedLen
  | best
  | arenaLimit
  | arenaUsed
  | pen1
  | pen2
  | pen3
  | pen4
  | score (m : Fin 8)
  | genLen
  | dark
  deriving DecidableEq, Repr

/-- What stands at a bus address (R71). -/
inductive Region where
  | reg (r : Reg)
  | logRom (i : Nat)
  | expRom (i : Nat)
  | ram (r : Ram) (i : Nat)
  | unmapped
  deriving DecidableEq, Repr

/-- The register at a byte offset; reserved offsets are as unmapped (R21, R22 (a), (b)). -/
def regRegion (offset : Nat) : Region :=
  match offset with
  | 0x000 => .reg .id
  | 0x004 => .reg .ctrl
  | 0x008 => .reg .status
  | 0x00C => .reg .cmd
  | 0x010 => .reg .cfg
  | 0x014 => .reg .plen
  | 0x018 => .reg .arg0
  | 0x01C => .reg .arg1
  | 0x020 => .reg .arg2
  | 0x024 => .reg .result
  | 0x028 => .reg .errcode
  | 0x02C => .reg .cap
  | 0x030 => .reg .total
  | 0x034 => .reg .blk
  | 0x038 => .reg .geom
  | 0x03C => .reg .usedLen
  | 0x040 => .reg .best
  | 0x048 => .reg .arenaLimit
  | 0x04C => .reg .arenaUsed
  | 0x050 => .reg .pen1
  | 0x054 => .reg .pen2
  | 0x058 => .reg .pen3
  | 0x05C => .reg .pen4
  | 0x060 => .reg (.score 0)
  | 0x064 => .reg (.score 1)
  | 0x068 => .reg (.score 2)
  | 0x06C => .reg (.score 3)
  | 0x070 => .reg (.score 4)
  | 0x074 => .reg (.score 5)
  | 0x078 => .reg (.score 6)
  | 0x07C => .reg (.score 7)
  | 0x080 => .reg .genLen
  | 0x084 => .reg .dark
  | _ => .unmapped

/-- An access to address a is performed at the word address with bits [1:0] ignored (R75). -/
def wordAddr (a : Addr) : Nat := a.toNat / 4 * 4

/-- The address map (R71), of a word address. -/
def regionAt (w : Nat) : Region :=
  if w < 0x01000 then regRegion w
  else if w < 0x01400 then .logRom ((w - 0x01000) / 4)
  else if w < 0x01800 then .expRom ((w - 0x01400) / 4)
  else if w < 0x01C00 then .ram .gen ((w - 0x01800) / 4)
  else if w < 0x04000 then .unmapped
  else if w < 0x08000 then .ram .payload ((w - 0x04000) / 4)
  else if w < 0x0C000 then .ram .stream ((w - 0x08000) / 4)
  else if w < 0x10000 then .ram .bitmap ((w - 0x0C000) / 4)
  else if w < 0x14000 then .ram .reserved ((w - 0x10000) / 4)
  else .unmapped

/-- What a bus address selects (R71, R75). -/
def region (a : Addr) : Region := regionAt (wordAddr a)

/-- ID, hard-wired (R24). -/
def idWord : Word := 0x51520007

/-- The value of a register while BUSY = 0 (R21, R23–R37, R40). -/
def State.regWord (P : Params) (s : State) : Reg → Word
  | .id => idWord
  | .ctrl => s.ctrlWord
  | .status => s.statusWord
  | .cmd => s.cmd
  | .cfg => s.cfgWord
  | .plen => s.plenWord
  | .arg0 => s.arg0
  | .arg1 => s.arg1
  | .arg2 => s.arg2
  | .result => s.result
  | .errcode => s.errWord
  | .cap => s.capWord P
  | .total => s.totalWord P
  | .blk => s.blkWord P
  | .geom => s.geomWord
  | .usedLen => s.usedLenWord
  | .best => s.bestWord
  | .arenaLimit => s.arenaLimit
  | .arenaUsed => s.arenaUsed
  | .pen1 => s.pen1
  | .pen2 => s.pen2
  | .pen3 => s.pen3
  | .pen4 => s.pen4
  | .score m => s.scores[m]
  | .genLen => s.genLenWord
  | .dark => s.dark

/-- The word a region holds (R22 (a), R73, R77): a window word zero-extends its byte, unmapped reads 0. -/
def State.regionWord (P : Params) (s : State) : Region → Word
  | .reg r => s.regWord P r
  | .logRom i => (logRom i).setWidth 32
  | .expRom i => (expRom i).setWidth 32
  | .ram r i => (s.ram r i).setWidth 32
  | .unmapped => 0

/-- The regions a host may read while BUSY = 1 (R366). -/
def readableBusy : Region → Bool
  | .reg .id | .reg .ctrl | .reg .status => true
  | .reg .cmd | .reg .cfg | .reg .plen | .reg .arg0 | .reg .arg1 | .reg .arg2 | .reg .result => false
  | .reg .errcode | .reg .cap | .reg .total | .reg .blk | .reg .geom | .reg .usedLen | .reg .best => false
  | .reg .arenaLimit | .reg .arenaUsed | .reg .pen1 | .reg .pen2 | .reg .pen3 | .reg .pen4 => false
  | .reg (.score _) | .reg .genLen | .reg .dark => false
  | .logRom _ | .expRom _ | .ram _ _ | .unmapped => false

/-- A host read returns a word and changes nothing of QRC (R22 (e)); while BUSY = 1 it returns a free word unless it
reads ID, CTRL or STATUS (R366). -/
def State.busRead (P : Params) (s : State) (a : Addr) : State :=
  if s.busy && !readableBusy (region a) then
    { s with readData := Config.freeWord s.draws, draws := s.draws + 1 }
  else { s with readData := s.regionWord P (region a) }

/-- LATENCY of a newly accepted word: an illegal word completes at once (R103), a command takes the next entry of the
schedule, 0 when there is none (R372). -/
def State.nextLatency (s : State) (w : Word) : Nat :=
  match decode w with
  | .ok _ => s.latencies.headD 0
  | .error _ => 0

/-- The schedule after an acceptance. -/
def State.latenciesAfter (s : State) (w : Word) : List Nat :=
  match decode w with
  | .ok _ => s.latencies.tail
  | .error _ => s.latencies

/-- A CMD write while BUSY = 0 accepts the command (R28): CMD <- w, DONE <- 0, BUSY <- 1. -/
def State.accept (s : State) (w : Word) : State :=
  { s with cmd := w, done := false, seq := .executing (s.nextLatency w), latencies := s.latenciesAfter w }

/-- A write to CTRL (R25), at any time: SRST performs a soft reset and the other bits of the write are ignored. -/
def State.writeCtrl (P : Params) (s : State) (v : Word) : State :=
  if v.getLsbD 0 then s.softReset P else { s with ieDone := v.getLsbD 1, ieErr := v.getLsbD 2 }

/-- A write to STATUS (R26, R331), at any time: write 1 to clear DONE and ERR. -/
def State.writeStatus (s : State) (v : Word) : State :=
  let t := if v.getLsbD 1 then s.clearDone else s
  if v.getLsbD 2 then t.clearError else t

/-- A write to CFG while BUSY = 0 (R29, R30): dropped with CFG_LOCKED under the lock. -/
def State.writeCfg (s : State) (v : Word) : State :=
  if s.cfgLocked then s.noteError .cfgLocked
  else { s with version := v.extractLsb' 0 6, eccLvl := v.extractLsb' 8 2 }

/-- A write to a register while BUSY = 0; read-only registers ignore it (R22 (b)). -/
def State.writeReg (P : Params) (s : State) (r : Reg) (v : Word) : State :=
  match r with
  | .ctrl => s.writeCtrl P v
  | .status => s.writeStatus v
  | .cmd => s.accept v
  | .cfg => s.writeCfg v
  | .plen => { s with plen := v.extractLsb' 0 12 }
  | .arg0 => { s with arg0 := v }
  | .arg1 => { s with arg1 := v }
  | .arg2 => { s with arg2 := v }
  | .arenaLimit => { s with arenaLimit := v }
  | .id | .result | .errcode | .cap | .total | .blk | .geom | .usedLen | .best | .arenaUsed => s
  | .pen1 | .pen2 | .pen3 | .pen4 | .score _ | .genLen | .dark => s

/-- A write to byte i of a RAM's window while BUSY = 0 (R73, R78, R79). -/
def State.writeRam (s : State) (r : Ram) (i : Nat) (v : Word) : State :=
  match r with
  | .gen => s
  | .payload => { s with mem := Memory.store s.mem (Ram.payload.addr i) (v.extractLsb' 0 8) }
  | .stream => { s with mem := Memory.store s.mem (Ram.stream.addr i) (v.extractLsb' 0 8) }
  | .bitmap => { s.dropSelection with mem := Memory.store s.mem (Ram.bitmap.addr i) (v.extractLsb' 0 8) }
  | .reserved => { s.dropSelection with mem := Memory.store s.mem (Ram.reserved.addr i) (v.extractLsb' 0 8) }

/-- A write to a region while BUSY = 0 (R71, R77, R78). -/
def State.writeIdle (P : Params) (s : State) (g : Region) (v : Word) : State :=
  match g with
  | .reg r => s.writeReg P r v
  | .ram r i => s.writeRam r i v
  | .logRom _ | .expRom _ | .unmapped => s

/-- A write to a region while BUSY = 1 (R22 (d), R324): accepted by CTRL and STATUS, else dropped with BUSY_WRITE. -/
def State.writeBusy (P : Params) (s : State) (g : Region) (v : Word) : State :=
  match g with
  | .reg .ctrl => s.writeCtrl P v
  | .reg .status => s.writeStatus v
  | .reg .id | .reg .cmd | .reg .cfg | .reg .plen | .reg .arg0 | .reg .arg1 | .reg .arg2 => s.noteError .busyWrite
  | .reg .result | .reg .errcode | .reg .cap | .reg .total | .reg .blk | .reg .geom => s.noteError .busyWrite
  | .reg .usedLen | .reg .best | .reg .arenaLimit | .reg .arenaUsed => s.noteError .busyWrite
  | .reg .pen1 | .reg .pen2 | .reg .pen3 | .reg .pen4 | .reg (.score _) => s.noteError .busyWrite
  | .reg .genLen | .reg .dark => s.noteError .busyWrite
  | .logRom _ | .expRom _ | .ram _ _ | .unmapped => s.noteError .busyWrite

/-- A host write (R70). -/
def State.busWrite (P : Params) (s : State) (a : Addr) (v : Word) : State :=
  if s.busy then s.writeBusy P (region a) v else s.writeIdle P (region a) v

/-- One act of the outside world. -/
def State.input (P : Params) (s : State) : Input → State
  | .read a => s.busRead P a
  | .write a v => s.busWrite P a v
  | .powerOn => s.powerOnReset

/-- The environment's turn: its oldest pending act, if any (R81 (a)). With none QRC stays as it is (R338, R373). -/
def State.environmentTurn (P : Params) (s : State) : State :=
  match s.pending with
  | [] => s
  | i :: rest => State.input P { s with pending := rest } i

/-- One step of the sequencer with tables P, `run` being what a command does. A command executes as one atomic step at its
completion (R372); an illegal word completes with BAD_CMD (R103); while it waits, and while QRC is idle, the environment's
oldest pending act takes place (R81 (a)). -/
def sequencerStep (P : Params) (run : Instr → State → Host.Outcome State Fault Refusal) (s : State) :
    Host.Outcome State Fault Refusal :=
  match s.seq with
  | .executing 0 =>
    match decode s.cmd with
    | .ok i => run i s
    | .error _ => .next s.rejectWord
  | .executing (left + 1) => .next (State.environmentTurn P { s with seq := .executing left })
  | .idle => .next (State.environmentTurn P s)

end Sys2Proof.Machine
end

