-- ==== Sys2Proof/Machine/Configured.lean ====
section
/-! DEFINITION. QRC with its table parameters as an argument (00_scope.md R7: "A model takes each as a configuration
argument"; assumption log entry 9; what it does with contents to which the rules give no meaning, entry 16). `exec`, `step` and `core` are these at the default contents, `stdParams`. -/

namespace Sys2Proof.Machine

/-- What each command's pseudocode ends in, with the tables P. The commands that read no table take none. -/
def runCommand (P : Params) (i : Instr) (s : State) : CmdResult :=
  match i with
  | .nop => .done s
  | .gfLog => .done (gfLogEffect s)
  | .gfExp => .done (gfExpEffect s)
  | .rsGen => guarded (rsGenCheck s) s (rsGenEffect s)
  | .rsEnc => guarded (rsEncCheck s) s (rsEncEffect s)
  | .streamBuild => streamBuild P s
  | .frameBuild => frameBuild P s
  | .place => place P s
  | .maskApply mid => maskApply P mid s
  | .maskScore => guarded (frameCheck s) s (maskScoreEffect s)
  | .maskSelect => maskSelect P s
  | .formatEmbed mid => formatEmbed P mid s
  | .sessionBegin => .done (sessionBeginEffect s)
  | .encode => encodeAll P s

/-- A command with the tables P. -/
def execWith (P : Params) (i : Instr) (s : State) : Host.Outcome State Fault Refusal := (runCommand P i s).outcome

/-- One step with the tables P. -/
def stepWith (P : Params) (s : State) : Host.Outcome State Fault Refusal := sequencerStep P (execWith P) s

/-- QRC with the tables P, as the host runs a machine. -/
def coreWith (P : Params) : Host.Core where
  State := State
  Fault := Fault
  Refusal := Refusal
  step := stepWith P
  reset := State.reset

end Sys2Proof.Machine
end

