-- ==== Sys2Proof/Machine/Dispatch.lean ====
section
/-! DEFINITION. The meaning of each command, one arm per constructor of Instr. -/

namespace Sys2Proof.Machine

def exec (i : Instr) (s : State) : Host.Outcome State Fault Refusal :=
  match i with
  | .nop => Sys2Proof.Machine.execNop s
  | .gfLog => Sys2Proof.Machine.execGfLog s
  | .gfExp => Sys2Proof.Machine.execGfExp s
  | .rsGen => Sys2Proof.Machine.execRsGen s
  | .rsEnc => Sys2Proof.Machine.execRsEnc s
  | .streamBuild => Sys2Proof.Machine.execStreamBuild s
  | .frameBuild => Sys2Proof.Machine.execFrameBuild s
  | .place => Sys2Proof.Machine.execPlace s
  | .maskApply mid => Sys2Proof.Machine.execMaskApply mid s
  | .maskScore => Sys2Proof.Machine.execMaskScore s
  | .maskSelect => Sys2Proof.Machine.execMaskSelect s
  | .formatEmbed mid => Sys2Proof.Machine.execFormatEmbed mid s
  | .sessionBegin => Sys2Proof.Machine.execSessionBegin s
  | .encode => Sys2Proof.Machine.execEncode s

end Sys2Proof.Machine
end

