-- ==== Sys2Proof/Machine/Step.lean ====
section
/-! DEFINITION. One step of the whole: the sequencer completes the accepted command when its LATENCY has passed, otherwise
the environment has its turn (20_memory.md R81; 70_reset_and_hazards.md R372). -/

namespace Sys2Proof.Machine

/-- One step of QRC with the default tables (R7). `stepWith` is the same step with the tables as an argument. -/
def step (s : State) : Host.Outcome State Fault Refusal := sequencerStep stdParams exec s

/-- The state in which the host has just written the command word to CMD and its LATENCY is 0, so that the very next
step runs it (R28, R372; assumption log entry 6). The bits above `nbits` are 0. -/
def State.withFetchWord (s : State) (nbits w : Nat) : State :=
  { s with cmd := BitVec.ofNat 32 (w % 2 ^ nbits), done := false, seq := .executing 0 }

end Sys2Proof.Machine
end

