-- ==== Sys2Proof/Safety.lean ====
section
/-! DEFINITION. What counts as a safe run of QRC: a step that answers a next state, and the invariants of a run that claims
are stated in (10_state.md R27, R30, R32, R35, R40, R151; 45_mask_format.md R272). -/

namespace Sys2Proof.Machine

/-- A step is safe when it answers a next state. -/
def Safe (o : Host.Outcome State Fault Refusal) : Prop := ∃ t, o = .next t

/-- The machine invariant: the memory is canonical, the flags are those a session can reach. -/
structure State.Inv (s : State) : Prop where
  /-- addresses rising, all of them RAM bytes (R71) -/
  mem_wf : Memory.wf s.mem
  /-- ERR and ERRCODE are set and cleared together (R32, R320, R331) -/
  err_code : s.err = false ↔ s.errCode = .none
  /-- DONE is 0 while BUSY is 1 (R28) -/
  busy_not_done : s.busy = true → s.done = false
  /-- a locked CFG is legal (R30, 44_place.md R230) -/
  locked_cfg : s.cfgLocked = true → s.cfgOk = true
  /-- a stream has a generator (R27) -/
  stream_gen : s.streamValid = true → s.genValid = true
  /-- the degree of a valid generator (R40, R153) -/
  gen_degree : s.genValid = true → 1 ≤ s.encDegree ∧ s.encDegree ≤ 68
  /-- a placed matrix has a frame and a stream (R230) -/
  placed_built : s.placed = true → s.frameBuilt = true ∧ s.streamValid = true
  /-- a chosen mask belongs to a frame (R261, R291) -/
  best_built : s.bestValid = true → s.frameBuilt = true
  /-- no mask chosen, BEST reads 0 (R35) -/
  best_zero : s.bestValid = false → s.bestId = 0
  /-- a selection has a winner (R27) -/
  selected_best : s.selected = true → s.bestValid = true
  /-- a complete symbol has a selection (R27, R272) -/
  symbol_selected : s.symbolValid = true → s.selected = true
  /-- only a stream is truncated (R27, R174) -/
  truncated_stream : s.truncated = true → s.streamValid = true
  /-- the model's own: the next draw is not the one unwritten RAM reads (log entry 1) -/
  draws_fresh : s.ramDraw < s.draws

/-- While GEN_VALID = 1, GEN RAM holds the image of the generator of degree GEN_LEN (R40, R151). -/
def State.GenHolds (s : State) : Prop :=
  s.genValid = true →
    1 ≤ s.encDegree ∧ s.encDegree ≤ 68 ∧ ∀ k ≤ s.encDegree, s.ram .gen k = (genImage s.encDegree).getD k 0

/-- While SYMBOL_VALID = 1, the 30 format cells hold FORMAT_WORD(ECCLVL, BEST.ID) (R27, R271, R272, R294). -/
def State.SymbolHolds (P : Params) (s : State) : Prop :=
  s.symbolValid = true →
    s.frameBuilt = true ∧ s.cfgOk = true ∧ s.selected = true ∧ s.bestValid = true ∧
      ∀ k < 15,
        s.cell .bitmap (cellA (width s.ver) k).1 (cellA (width s.ver) k).2 =
            (P.formatWord s.level s.bestId.toNat).getLsbD k ∧
          s.cell .bitmap (cellB k).1 (cellB k).2 = (P.formatWord s.level s.bestId.toNat).getLsbD k

/-- The value at x of a polynomial given by its coefficients, constant term first (R150). -/
def polyAt (cs : List Byte) (x : Byte) : Byte := cs.foldr (fun c v => c ^^^ gmul v x) 0

/-- The value at x of a codeword read as a polynomial with its first byte leading (R156). -/
def codewordAt (ws : List Byte) (x : Byte) : Byte := ws.foldl (fun v w => gmul v x ^^^ w) 0

end Sys2Proof.Machine
end

