-- ==== Sys2Proof/Certificates/Slice0/Obligations.lean ====
section
/-! DEFINITION. The statements about QRC. Each docstring names the rules of spec/ it formalises. A statement about a command
says in one conclusion that the command completes, what it writes and that it writes nothing else: a next state written
`{ s with mem := t.mem, … }` keeps every register it does not name. -/

open Sys2Proof Sys2Proof.Machine

/-! ### Command words -/

/-- R100, R102, R106: decoding the assembled word of a well-formed command gives the command back. -/
def Obligations.EncodeThenDecode : Prop :=
  ∀ i : Instr, i.wellFormed = true → decode (encode i) = .ok i

/-- R100–R102, R105: every legal word has one meaning, and is the assembled word of it. -/
def Obligations.DecodeThenEncode : Prop :=
  ∀ (w : Word) (i : Instr), decode w = .ok i → i.wellFormed = true ∧ encode i = w

/-- R103, R104: a word is illegal iff OP is not in the map, or bits [31:11] are not 0, or MID is not 0 for a command other
than MASK_APPLY and FORMAT_EMBED; it is still accepted, and completes at once with BAD_CMD, changing nothing else. (At once:
in the very next step, assumption log entry 13.) -/
def Obligations.IllegalWords : Prop :=
  (∀ w : Word,
    (∃ c, decode w = .error c) ↔
      (w.extractLsb' 0 8 ∉ [0x00#8, 0x01#8, 0x02#8, 0x10#8, 0x11#8, 0x20#8, 0x30#8, 0x40#8, 0x50#8, 0x51#8, 0x52#8,
          0x60#8, 0x70#8, 0x7F#8]) ∨
        w.extractLsb' 11 21 ≠ 0#21 ∨
        (w.extractLsb' 0 8 ∉ [0x50#8, 0x60#8] ∧ w.extractLsb' 8 3 ≠ 0#3)) ∧
  ∀ (s : State) (w : Word) (c : Illegal) (rest : List Input), decode w = .error c → s.seq = .idle →
    s.pending = .write 0x0000C w :: rest →
      step s = .next { s with pending := rest, cmd := w, done := false, seq := .executing 0 } ∧
      step { s with pending := rest, cmd := w, done := false, seq := .executing 0 } =
        .next { s with
          pending := rest
          cmd := w
          err := true
          errCode := if s.err then s.errCode else .badCmd
          seq := .idle
          done := true }

/-- R102, R106: words written out from the opcode map. -/
def Obligations.SpecWordsDecode : Prop :=
  decode 0x00000000 = .ok .nop ∧ decode 0x00000001 = .ok .gfLog ∧ decode 0x00000011 = .ok .rsEnc ∧
    decode 0x00000020 = .ok .streamBuild ∧ decode 0x00000030 = .ok .frameBuild ∧ decode 0x00000040 = .ok .place ∧
    decode 0x00000350 = .ok (.maskApply 3) ∧ decode 0x00000052 = .ok .maskSelect ∧
    decode 0x00000760 = .ok (.formatEmbed 7) ∧ decode 0x00000070 = .ok .sessionBegin ∧
    decode 0x0000007F = .ok .encode

/-! ### The step -/

/-- R28, R81, R372: when the latency has passed the step is the accepted command; until then, and while QRC is idle, the
environment's oldest pending act takes place. (That the environment's acts stand in a list and LATENCY counts steps is
the model's form, assumption log entries 5 and 6.) R7: with any tables P the accepted command runs with P, and the machine
is the one with the default tables (assumption log entry 9). -/
def Obligations.StepRunsTheCommand : Prop :=
  (∀ (s : State) (i : Instr), s.seq = .executing 0 → decode s.cmd = .ok i → step s = exec i s) ∧
    (∀ s : State, s.seq = .idle → s.pending = [] → step s = .next s) ∧
    (∀ (s : State) (a : Input) (rest : List Input), s.seq = .idle → s.pending = a :: rest →
      step s = .next (State.input stdParams { s with pending := rest } a)) ∧
    (∀ (s : State) (n : Nat) (a : Input) (rest : List Input), s.seq = .executing (n + 1) → s.pending = a :: rest →
      step s = .next (State.input stdParams { s with seq := .executing n, pending := rest } a)) ∧
    (∀ (s : State) (n : Nat), s.seq = .executing (n + 1) → s.pending = [] →
      step s = .next { s with seq := .executing n }) ∧
    (∀ (P : Params) (s : State) (i : Instr), s.seq = .executing 0 → decode s.cmd = .ok i →
      (coreWith P).step s = execWith P i s) ∧
    (∀ (i : Instr) (s : State), execWith stdParams i s = exec i s) ∧
    (∀ s : State, (coreWith stdParams).step s = step s) ∧ (∀ P : Params, (coreWith P).reset = State.reset)

/-- R28, R371, R372: a command written to CMD while QRC is idle is accepted (CMD, DONE, BUSY) and, n being its LATENCY,
has run n + 2 steps later as one atomic step, whatever ERR holds (R331). (The list `latencies` is the model's form of
the parameter LATENCY, assumption log entry 5.) -/
def Obligations.AcceptedCommandRuns : Prop :=
  ∀ (s : State) (w : Word) (i : Instr) (n : Nat) (rest : List Nat), s.seq = .idle →
    s.pending = [.write 0x0000C w] → s.latencies = n :: rest → decode w = .ok i →
      Sys2Proof.core.run 1 s =
        .next { s with pending := [], latencies := rest, cmd := w, done := false, seq := .executing n } ∧
      Sys2Proof.core.run (n + 2) s =
        exec i { s with pending := [], latencies := rest, cmd := w, done := false, seq := .executing 0 }

/-- R28, R23, R38, R41: whatever a command does, it completes with BUSY = 0 and DONE = 1; it leaves CMD, ARG0..ARG2, CFG,
PLEN, ARENA_LIMIT, CTRL and every PAYLOAD byte as they were; only GF_LOG, GF_EXP, MASK_SCORE and MASK_SELECT (and ENCODE,
which runs MASK_SELECT) write RESULT; only FRAME_BUILD (and ENCODE) writes RESERVED. -/
def Obligations.CommandsLeaveOperands : Prop :=
  ∀ (i : Instr) (s : State), ∃ t, exec i s = .next t ∧
    t.seq = .idle ∧ t.done = true ∧ t.cmd = s.cmd ∧ t.arg0 = s.arg0 ∧ t.arg1 = s.arg1 ∧ t.arg2 = s.arg2 ∧
    t.version = s.version ∧ t.eccLvl = s.eccLvl ∧ t.plen = s.plen ∧ t.arenaLimit = s.arenaLimit ∧
    t.ieDone = s.ieDone ∧ t.ieErr = s.ieErr ∧
    (∀ k < 4096, t.ram .payload k = s.ram .payload k) ∧
    (i ∉ [Instr.gfLog, .gfExp, .maskScore, .maskSelect, .encode] → t.result = s.result) ∧
    (i ∉ [Instr.frameBuild, .encode] → ∀ k < 4096, t.ram .reserved k = s.ram .reserved k)

/-! ### Invariants of every step -/

/-- The state after reset meets the three invariants. -/
def Obligations.InvariantsHoldAtReset : Prop :=
  State.reset.Inv ∧ State.reset.GenHolds ∧ State.reset.SymbolHolds stdParams

/-- R27, R28, R30, R32, R35, R230, R371: from every state that meets the machine invariant a step, a bus access or a reset
included, answers a next state (it never faults and is never refused), and that state meets the invariant. -/
def Obligations.EveryStepKeepsInv : Prop := ∀ s : State, s.Inv → ∃ t, step s = .next t ∧ t.Inv

/-- R40, R78, R151: while GEN_VALID = 1, GEN RAM holds the generator of degree GEN_LEN, through every step: the host cannot
alter it and no command but RS_GEN and STREAM_BUILD writes it. -/
def Obligations.EveryStepKeepsGenerator : Prop :=
  ∀ s t : State, s.GenHolds → step s = .next t → t.GenHolds

/-- R27, R79, R271, R272, R294: while SYMBOL_VALID = 1, a frame and a selection stand and the 30 format cells hold the format
word of the level and the chosen mask, through every step. -/
def Obligations.EveryStepKeepsSymbol : Prop :=
  ∀ s t : State, s.SymbolHolds stdParams → step s = .next t → t.SymbolHolds stdParams

/-- R30: while FRAME_BUILT or STREAM_VALID is 1 a write to CFG is dropped and raises CFG_LOCKED, and the lock ends only with
SESSION_BEGIN or reset: any other step keeps CFG and the lock. (The list `pending`, whose oldest act a step performs unless it completes
a command: assumption log entry 6.) -/
def Obligations.SessionLocksCfg : Prop :=
  (∀ (s : State) (a : Addr) (v : Word), s.seq = .idle → (s.frameBuilt = true ∨ s.streamValid = true) →
    wordAddr a = 0x010 →
      State.busWrite stdParams s a v =
        { s with err := true, errCode := if s.err then s.errCode else .cfgLocked }) ∧
  (∀ s t : State, (s.frameBuilt = true ∨ s.streamValid = true) → step s = .next t →
    ((t.frameBuilt = true ∨ t.streamValid = true) ∧ t.version = s.version ∧ t.eccLvl = s.eccLvl) ∨
    (s.seq = .executing 0 ∧ decode s.cmd = .ok .sessionBegin) ∨
    (s.seq ≠ .executing 0 ∧ ∃ a v rest, s.pending = .write a v :: rest ∧ wordAddr a = 0x004 ∧ v.getLsbD 0 = true) ∨
    (s.seq ≠ .executing 0 ∧ ∃ rest, s.pending = .powerOn :: rest))

/-- R27: no command sets or clears a session flag but those the flag table lists (ENCODE by its sub-steps). -/
def Obligations.CommandsChangeFlagsAsListed : Prop :=
  ∀ (i : Instr) (s t : State), exec i s = .next t →
    (s.frameBuilt = false → t.frameBuilt = true → i = .frameBuild ∨ i = .encode) ∧
    (s.frameBuilt = true → t.frameBuilt = false → i = .sessionBegin) ∧
    (s.streamValid = false → t.streamValid = true → i = .streamBuild ∨ i = .encode) ∧
    (s.streamValid = true → t.streamValid = false → i = .sessionBegin) ∧
    (s.genValid = false → t.genValid = true → i = .rsGen ∨ i = .streamBuild ∨ i = .encode) ∧
    (s.genValid = true → t.genValid = false → i = .sessionBegin) ∧
    (s.placed = false → t.placed = true → i = .place ∨ i = .encode) ∧
    (s.placed = true → t.placed = false → i = .sessionBegin) ∧
    (s.selected = false → t.selected = true → i = .maskSelect ∨ i = .encode) ∧
    (s.selected = true → t.selected = false →
      i = .frameBuild ∨ i = .place ∨ (∃ m, i = .maskApply m) ∨ i = .sessionBegin) ∧
    (s.symbolValid = false → t.symbolValid = true →
      (i = .formatEmbed s.bestId.toNat ∧ s.selected = true) ∨ i = .encode) ∧
    (s.symbolValid = true → t.symbolValid = false →
      (∃ m, i = .formatEmbed m) ∨ i = .frameBuild ∨ i = .place ∨ (∃ m, i = .maskApply m) ∨ i = .maskSelect ∨
        i = .sessionBegin) ∧
    (s.truncated ≠ t.truncated → i = .streamBuild ∨ i = .encode ∨ i = .sessionBegin)

/-- R37: a step decreases ARENA_USED only by SESSION_BEGIN or a reset, and where it grows it stays within ARENA_LIMIT. (The
list `pending`, whose oldest act a step performs unless it completes a command: assumption log entry 6.) -/
def Obligations.ArenaNeverReclaims : Prop :=
  ∀ s t : State, step s = .next t →
    (s.arenaUsed.toNat ≤ t.arenaUsed.toNat ∧
      (t.arenaUsed ≠ s.arenaUsed → t.arenaUsed.toNat ≤ s.arenaLimit.toNat)) ∨
    (t.arenaUsed = 0 ∧
      ((s.seq = .executing 0 ∧ decode s.cmd = .ok .sessionBegin) ∨
        (s.seq ≠ .executing 0 ∧ ∃ a v rest, s.pending = .write a v :: rest ∧ wordAddr a = 0x004 ∧ v.getLsbD 0 = true) ∨
        (s.seq ≠ .executing 0 ∧ ∃ rest, s.pending = .powerOn :: rest)))

/-! ### The host bus and the registers -/

/-- R22 (a), (e), R71, R73, R75, R77: an access is performed at its word address; while BUSY = 0 a read changes nothing (the word read apart); a window word
zero-extends its byte, reserved offsets and unmapped addresses read 0. -/
def Obligations.IdleReads : Prop :=
  ∀ (s : State) (a : Addr), s.seq = .idle →
    wordAddr a = (a &&& 0x1FFFC).toNat ∧
    ∃ v, State.busRead stdParams s a = { s with readData := v } ∧
      (∀ i < 256, wordAddr a = 0x01000 + 4 * i → v = (logRom i).setWidth 32) ∧
      (∀ i < 256, wordAddr a = 0x01400 + 4 * i → v = (expRom i).setWidth 32) ∧
      (∀ i < 256, wordAddr a = 0x01800 + 4 * i → v = (s.ram .gen i).setWidth 32) ∧
      (∀ i < 4096, wordAddr a = 0x04000 + 4 * i → v = (s.ram .payload i).setWidth 32) ∧
      (∀ i < 4096, wordAddr a = 0x08000 + 4 * i → v = (s.ram .stream i).setWidth 32) ∧
      (∀ i < 4096, wordAddr a = 0x0C000 + 4 * i → v = (s.ram .bitmap i).setWidth 32) ∧
      (∀ i < 4096, wordAddr a = 0x10000 + 4 * i → v = (s.ram .reserved i).setWidth 32) ∧
      (wordAddr a = 0x044 ∨ (0x088 ≤ wordAddr a ∧ wordAddr a < 0x01000) ∨
        (0x01C00 ≤ wordAddr a ∧ wordAddr a < 0x04000) ∨ 0x14000 ≤ wordAddr a → v = 0)

/-- R366: while BUSY = 1 a read returns some word and has no side effect (the model's own draw counter apart, assumption log
entry 4); ID, CTRL and STATUS read their current values. -/
def Obligations.BusyReads : Prop :=
  ∀ (s : State) (a : Addr) (n : Nat), s.seq = .executing n →
    ∃ v d, State.busRead stdParams s a = { s with readData := v, draws := d } ∧
      (wordAddr a = 0x000 → v = 0x51520007) ∧ (wordAddr a = 0x004 → v = s.ctrlWord) ∧
      (wordAddr a = 0x008 → v = s.statusWord)

/-- R25, R26, R328: the bits of STATUS and CTRL; IRQ is (DONE ∧ IE_DONE) ∨ (ERR ∧ IE_ERR) at every instant. -/
def Obligations.StatusAndControlBits : Prop :=
  ∀ s : State,
    s.irq = ((s.done && s.ieDone) || (s.err && s.ieErr)) ∧
    s.statusWord.getLsbD 0 = decide (s.seq ≠ .idle) ∧ s.statusWord.getLsbD 1 = s.done ∧
    s.statusWord.getLsbD 2 = s.err ∧ s.statusWord.getLsbD 3 = s.irq ∧ s.statusWord.getLsbD 8 = s.frameBuilt ∧
    s.statusWord.getLsbD 9 = s.streamValid ∧ s.statusWord.getLsbD 10 = s.genValid ∧
    s.statusWord.getLsbD 11 = s.placed ∧ s.statusWord.getLsbD 12 = s.selected ∧
    s.statusWord.getLsbD 13 = s.symbolValid ∧ s.statusWord.getLsbD 14 = s.truncated ∧
    (∀ n, (4 ≤ n ∧ n < 8) ∨ 15 ≤ n → s.statusWord.getLsbD n = false) ∧
    s.ctrlWord.getLsbD 1 = s.ieDone ∧ s.ctrlWord.getLsbD 2 = s.ieErr ∧
    (∀ n, n = 0 ∨ 3 ≤ n → s.ctrlWord.getLsbD n = false)

/-- R21, R24, R28, R29, R31–R37, R40, R321: what a read of each register returns while BUSY = 0; ERRCODE reads the number of
R321's table. -/
def Obligations.RegisterReads : Prop :=
  ∀ (s : State) (a : Addr) (v : Word), s.seq = .idle → (State.busRead stdParams s a).readData = v →
    (wordAddr a = 0x000 → v = 0x51520007) ∧ (wordAddr a = 0x004 → v = s.ctrlWord) ∧
    (wordAddr a = 0x008 → v = s.statusWord) ∧ (wordAddr a = 0x00C → v = s.cmd) ∧
    (wordAddr a = 0x010 → v.toNat = s.eccLvl.toNat * 256 + s.version.toNat) ∧
    (wordAddr a = 0x014 → v.toNat = s.plen.toNat) ∧ (wordAddr a = 0x018 → v = s.arg0) ∧
    (wordAddr a = 0x01C → v = s.arg1) ∧ (wordAddr a = 0x020 → v = s.arg2) ∧ (wordAddr a = 0x024 → v = s.result) ∧
    (wordAddr a = 0x028 →
      ∀ c ∈ [(ErrCode.none, 0#32), (.badCmd, 1), (.badCfg, 2), (.badArg, 3), (.seq, 4), (.frameAlreadyBuilt, 5),
        (.arenaExhausted, 6), (.cfgLocked, 7), (.busyWrite, 8)], s.errCode = c.1 → v = c.2) ∧
    (wordAddr a = 0x03C → v.toNat = s.usedLen.toNat) ∧
    (wordAddr a = 0x040 → v.toNat = s.bestValid.toNat * 256 + s.bestId.toNat) ∧
    (wordAddr a = 0x048 → v = s.arenaLimit) ∧ (wordAddr a = 0x04C → v = s.arenaUsed) ∧
    (wordAddr a = 0x050 → v = s.pen1) ∧ (wordAddr a = 0x054 → v = s.pen2) ∧ (wordAddr a = 0x058 → v = s.pen3) ∧
    (wordAddr a = 0x05C → v = s.pen4) ∧
    (∀ m : Fin 8, wordAddr a = 0x060 + 4 * m.val → v = s.scores[m]) ∧
    (wordAddr a = 0x080 → v.toNat = s.genLen.toNat) ∧ (wordAddr a = 0x084 → v = s.dark)

/-- R33, R171, R172: CAP, TOTAL, BLK and GEOM are computed from CFG; they read 0 for a VERSION outside 1..40, and so after
reset. -/
def Obligations.ConfigurationRegisters : Prop :=
  ∀ s : State, s.seq = .idle → ∀ v l sh lo d e : Nat, s.version.toNat = v → s.eccLvl.toNat = l →
    stdParams.blockTable v l = ⟨sh, lo, d, e⟩ →
      ∀ cap total blk geom : Word, (State.busRead stdParams s 0x0002C).readData = cap →
        (State.busRead stdParams s 0x00030).readData = total → (State.busRead stdParams s 0x00034).readData = blk →
        (State.busRead stdParams s 0x00038).readData = geom →
          (v = 0 ∨ 40 < v → cap = 0 ∧ total = 0 ∧ blk = 0 ∧ geom = 0) ∧
          (1 ≤ v ∧ v ≤ 40 →
            cap.toNat = d * (sh + lo) + lo ∧ total.toNat = d * (sh + lo) + lo + e * (sh + lo) ∧
            (blk.extractLsb' 0 8).toNat = sh ∧ (blk.extractLsb' 8 8).toNat = lo ∧
            (blk.extractLsb' 16 8).toNat = d ∧ (blk.extractLsb' 24 8).toNat = e ∧
            geom.toNat = (17 + 4 * v + 7) / 8 * 256 + (17 + 4 * v))

/-- R23, R25, R28, R29, R31, R37: what a write to each writable register does while BUSY = 0 (STATUS and SRST apart); CTRL
takes its write while BUSY = 1 as well. -/
def Obligations.RegisterWrites : Prop :=
  (∀ (s : State) (a : Addr) (v : Word), wordAddr a = 0x004 → v.getLsbD 0 = false →
    State.busWrite stdParams s a v = { s with ieDone := v.getLsbD 1, ieErr := v.getLsbD 2 }) ∧
  (∀ (s : State) (a : Addr) (v : Word), s.seq = .idle →
    (wordAddr a = 0x00C → ∃ n rest, State.busWrite stdParams s a v =
      { s with cmd := v, done := false, seq := .executing n, latencies := rest }) ∧
    (wordAddr a = 0x010 → s.frameBuilt = false → s.streamValid = false → State.busWrite stdParams s a v =
      { s with version := v.extractLsb' 0 6, eccLvl := v.extractLsb' 8 2 }) ∧
    (wordAddr a = 0x014 → State.busWrite stdParams s a v = { s with plen := v.extractLsb' 0 12 }) ∧
    (wordAddr a = 0x018 → State.busWrite stdParams s a v = { s with arg0 := v }) ∧
    (wordAddr a = 0x01C → State.busWrite stdParams s a v = { s with arg1 := v }) ∧
    (wordAddr a = 0x020 → State.busWrite stdParams s a v = { s with arg2 := v }) ∧
    (wordAddr a = 0x048 → State.busWrite stdParams s a v = { s with arenaLimit := v }))

/-- R22 (b), R77, R78: while BUSY = 0, writes to read-only registers, reserved offsets, unmapped addresses and the LOG, EXP
and GEN windows change nothing. -/
def Obligations.IgnoredWrites : Prop :=
  ∀ (s : State) (a : Addr) (v : Word), s.seq = .idle →
    wordAddr a = 0x000 ∨ (0x024 ≤ wordAddr a ∧ wordAddr a < 0x048) ∨ (0x04C ≤ wordAddr a ∧ wordAddr a < 0x04000) ∨
      0x14000 ≤ wordAddr a →
    State.busWrite stdParams s a v = s

/-- R324: a dropped write raises CFG_LOCKED (to CFG, under the lock) or BUSY_WRITE (while BUSY = 1, checked first): it sets
ERR and, if ERR was 0, ERRCODE, and changes nothing else. -/
def Obligations.BusSideErrors : Prop :=
  (∀ (s : State) (a : Addr) (v : Word) (n : Nat), s.seq = .executing n → wordAddr a ≠ 0x004 → wordAddr a ≠ 0x008 →
    State.busWrite stdParams s a v = { s with err := true, errCode := if s.err then s.errCode else .busyWrite }) ∧
  (∀ (s : State) (a : Addr) (v : Word), s.seq = .idle → (s.frameBuilt = true ∨ s.streamValid = true) →
    wordAddr a = 0x010 →
    State.busWrite stdParams s a v = { s with err := true, errCode := if s.err then s.errCode else .cfgLocked })

/-- R26, R32, R331: writing 1 to STATUS.DONE clears DONE, writing 1 to STATUS.ERR clears ERR and ERRCODE, writing 0 leaves
them; busy or not. -/
def Obligations.StatusWriteOneClears : Prop :=
  ∀ (s : State) (a : Addr) (v : Word), wordAddr a = 0x008 →
    State.busWrite stdParams s a v =
      { s with
        done := s.done && !v.getLsbD 1
        err := s.err && !v.getLsbD 2
        errCode := if v.getLsbD 2 then .none else s.errCode }

/-- R73, R79: while BUSY = 0 a write to a window word stores bits [7:0] into its byte and no other; to BITMAP or RESERVED it
also clears SELECTED and SYMBOL_VALID; to PAYLOAD and STREAM it changes no flag. -/
def Obligations.WindowWrites : Prop :=
  ∀ (s : State) (r : Ram) (i : Nat) (a : Addr) (v : Word), s.seq = .idle → r ≠ .gen → i < 4096 →
    wordAddr a = r.addr i →
      ∃ t, State.busWrite stdParams s a v = t ∧
        t = { s with
          mem := t.mem
          selected := if r = .bitmap ∨ r = .reserved then false else s.selected
          symbolValid := if r = .bitmap ∨ r = .reserved then false else s.symbolValid } ∧
        t.ram r i = v.extractLsb' 0 8 ∧
        ∀ b, b ≠ r.addr i → t.byteAt b = s.byteAt b

/-! ### Reset -/

/-- R45, R361: after reset every register reads 0, ARENA_LIMIT reads 0xFFFF_FFFF, ID reads 0x5152_0007, QRC is idle and the
interrupt is deasserted. -/
def Obligations.RegistersAfterReset : Prop :=
  (∀ r : Reg, State.reset.regWord stdParams r =
    if r = .id then 0x51520007 else if r = .arenaLimit then 0xFFFFFFFF else 0) ∧
  State.reset.busy = false ∧ State.reset.irq = false ∧ State.reset.cfgLocked = false

/-- R320, R363: the bytes a command writes are those of its footprint (assumption log entry 3), and no others. -/
def Obligations.FootprintCoversWrites : Prop :=
  ∀ (i : Instr) (s t : State) (a : Nat), exec i s = .next t → a ∉ footprint stdParams i s → t.byteAt a = s.byteAt a

/-- R25, R361, R362, R363: a soft reset sets every register to its reset value and ignores the other bits of the write. While
BUSY = 0 it leaves every RAM byte; while BUSY = 1 it aborts the command (DONE is not set) and leaves every byte the command's
rule would not have written. Power-on reset sets the registers alike. (`pending`, `latencies`, `readData` and the draw
counters are the model's own fields, assumption log entries 1 to 7; what the footprint lists, entry 3.) -/
def Obligations.Resets : Prop :=
  (∀ (s : State) (a : Addr) (v : Word), s.seq = .idle → wordAddr a = 0x004 → v.getLsbD 0 = true →
    State.busWrite stdParams s a v =
      { State.reset with
        mem := s.mem
        ramDraw := s.ramDraw
        draws := s.draws
        pending := s.pending
        latencies := s.latencies
        readData := s.readData }) ∧
  (∀ (s : State) (a : Addr) (v : Word) (n : Nat) (i : Instr), s.seq = .executing n → decode s.cmd = .ok i →
    wordAddr a = 0x004 → v.getLsbD 0 = true →
      ∃ t, State.busWrite stdParams s a v = t ∧
        t = { State.reset with
          mem := t.mem
          ramDraw := s.ramDraw
          draws := t.draws
          pending := s.pending
          latencies := s.latencies
          readData := s.readData } ∧
        ∀ b, b ∉ footprint stdParams i s → t.byteAt b = s.byteAt b) ∧
  (∀ s : State, ∃ d n, State.input stdParams s .powerOn =
    { State.reset with
      ramDraw := d
      draws := n
      pending := s.pending
      latencies := s.latencies
      readData := s.readData })

/-! ### GF(256) -/

/-- R132, R133, R140: EXP is the powers of 2 by the multiply-by-2-with-reduction loop, with EXP[255] = 1; LOG is its inverse,
with LOG[0] = 255; EXP(LOG(x)) = x for nonzero x, LOG is a bijection of 1..255 onto 0..254, and GF_LOG then GF_EXP with ARG0
set to the first RESULT returns x. -/
def Obligations.LogAndExpAreInverse : Prop :=
  (expRom 0 = 1 ∧
    (∀ i < 254, expRom (i + 1) = (expRom i <<< 1) ^^^ (if (expRom i).getLsbD 7 then 0x1D else 0)) ∧
    expRom 255 = 1 ∧ (∀ i < 255, (logRom (expRom i).toNat).toNat = i) ∧ logRom 0 = 255) ∧
  (∀ x : Byte, x ≠ 0 → (logRom x.toNat).toNat < 255 ∧ expRom (logRom x.toNat).toNat = x) ∧
  (∀ n < 255, ∃ x : Byte, x ≠ 0 ∧ (logRom x.toNat).toNat = n) ∧
  ∀ (s : State) (x : Byte), s.arg0.extractLsb' 0 8 = x → x ≠ 0 →
    ∃ t u, exec .gfLog s = .next t ∧ exec .gfExp { t with arg0 := t.result } = .next u ∧ u.result = x.setWidth 32

/-- R130, R131, R136: `gmul` is the multiplication of a field: commutative, associative, distributive over XOR, with unit 1
and inverses, and multiplying by 2 shifts left and reduces by 0x11D. -/
def Obligations.FieldMultiplication : Prop :=
  ∀ a b c : Byte,
    gmul a b = gmul b a ∧ gmul (gmul a b) c = gmul a (gmul b c) ∧ gmul a (b ^^^ c) = gmul a b ^^^ gmul a c ∧
      gmul a 1 = a ∧ (a ≠ 0 → ∃ d, gmul a d = 1) ∧
      gmul a 2 = (a <<< 1) ^^^ (if a.getLsbD 7 then 0x1D else 0)

/-- R137: GF_LOG, OP 0x01, writes LOG[ARG0[7:0]], zero-extended, to RESULT (255 for 0) and nothing else; it has no error. -/
def Obligations.GfLogResult : Prop :=
  decode 0x00000001 = .ok .gfLog ∧
    ∀ s : State, exec .gfLog s =
      .next { s with result := (logRom (s.arg0.extractLsb' 0 8).toNat).setWidth 32, seq := .idle, done := true }

/-- R134, R138: GF_EXP, OP 0x02, writes EXP[ARG0 mod 255], zero-extended, to RESULT and nothing else; it has no error and the
result is never 0. -/
def Obligations.GfExpResult : Prop :=
  decode 0x00000002 = .ok .gfExp ∧
    ∀ s : State, exec .gfExp s =
      .next { s with result := (expRom (s.arg0.toNat % 255)).setWidth 32, seq := .idle, done := true } ∧
      expRom (s.arg0.toNat % 255) ≠ 0

/-! ### Reed–Solomon -/

/-- R150, R151, R152: the generator polynomial of degree e is monic, all its coefficients are nonzero, its roots are
α^0 .. α^(e−1), and its constant term's log is e(e−1)/2 mod 255. -/
def Obligations.GeneratorPolynomial : Prop :=
  ∀ e : Nat, 1 ≤ e → e ≤ 68 →
    (genPoly e).length = e + 1 ∧ (genPoly e).getD e 0 = 1 ∧ (∀ c ∈ genPoly e, c ≠ 0) ∧
      (∀ i < e, polyAt (genPoly e) (gexp i) = 0) ∧
      ((genImage e).getD 0 0).toNat = e * (e - 1) / 2 % 255

/-- R151, R153: RS_GEN with e = ARG0[7:0] in 1..68 writes GEN[k] = LOG[c_k] for k in 0..e, GEN_LEN and GEN_VALID, and no
other register or byte. -/
def Obligations.RsGenResult : Prop :=
  ∀ (s : State) (e : Nat), (s.arg0.extractLsb' 0 8).toNat = e → 1 ≤ e → e ≤ 68 →
    ∃ t, exec .rsGen s = .next t ∧
      t = { s with mem := t.mem, genLen := BitVec.ofNat 7 e, genValid := true, seq := .idle, done := true } ∧
      (∀ k ≤ e, t.ram .gen k = logRom ((genPoly e).getD k 0).toNat) ∧
      ∀ a, (∀ k ≤ e, a ≠ Ram.gen.addr k) → t.byteAt a = s.byteAt a

/-- R154, R155: RS_ENC with src = ARG0[11:0], dst = ARG1[11:0], n = ARG2[7:0] and e = GEN_LEN writes the e ECC bytes of
STREAM[src..src+n−1], read before the write, to STREAM[dst..dst+e−1], and nothing else. -/
def Obligations.RsEncResult : Prop :=
  ∀ (s : State) (src dst n e : Nat), (s.arg0.extractLsb' 0 12).toNat = src → (s.arg1.extractLsb' 0 12).toNat = dst →
    (s.arg2.extractLsb' 0 8).toNat = n → s.genLen.toNat = e → s.genValid = true → src + n ≤ 4096 → dst + e ≤ 4096 →
      ∃ t, exec .rsEnc s = .next t ∧
        t = { s with mem := t.mem, seq := .idle, done := true } ∧
        (∀ k < e, t.ram .stream (dst + k) =
          (rsEncode ((List.range e).map fun j => s.ram .gen j) e
            ((List.range n).map fun j => s.ram .stream (src + j))).getD k 0) ∧
        ∀ a, (∀ k < e, a ≠ Ram.stream.addr (dst + k)) → t.byteAt a = s.byteAt a

/-- R150, R154, R156: data followed by its ECC bytes, read as a polynomial with the first byte leading, has every root of the
generator: the encoder computes the systematic Reed–Solomon remainder. -/
def Obligations.CodewordsHaveGeneratorRoots : Prop :=
  ∀ (e : Nat) (data : List Byte), 1 ≤ e → e ≤ 68 →
    (rsEncode (genImage e) e data).length = e ∧
      ∀ i < e, codewordAt (data ++ rsEncode (genImage e) e data) (gexp i) = 0

/-- R156: the encoder is GF(2)-linear, and all-zero data gives all-zero ECC. -/
def Obligations.EncoderIsLinear : Prop :=
  ∀ (e : Nat) (a b : List Byte), 1 ≤ e → e ≤ 68 → a.length = b.length →
    rsEncode (genImage e) e (List.zipWith (· ^^^ ·) a b) =
        List.zipWith (· ^^^ ·) (rsEncode (genImage e) e a) (rsEncode (genImage e) e b) ∧
      rsEncode (genImage e) e (List.replicate a.length 0) = List.replicate e 0

/-! ### The data stream -/

/-- R173, R174, R179, R181, R182: STREAM_BUILD with a legal VERSION and room in the arena writes STREAM[0..TOTAL−1], the
generator of the block table's ECC width, GEN_LEN, USED_LEN, TRUNCATED, GEN_VALID, STREAM_VALID and ARENA_USED, and nothing
else. -/
def Obligations.StreamBuildResult : Prop :=
  ∀ (s : State) (v limit : Nat) (e : BlockEntry), s.version.toNat = v → 1 ≤ v → v ≤ 40 →
    stdParams.blockTable v s.eccLvl.toNat = e → limit = e.capacity - (if v ≤ 9 then 2 else 3) →
    s.arenaUsed.toNat + e.total ≤ s.arenaLimit.toNat →
      ∃ t, exec .streamBuild s = .next t ∧
        t = { s with
          mem := t.mem
          arenaUsed := BitVec.ofNat 32 (s.arenaUsed.toNat + e.total)
          genLen := BitVec.ofNat 7 e.eccWidth
          usedLen := BitVec.ofNat 12 (min s.plen.toNat limit)
          truncated := decide (limit < s.plen.toNat)
          genValid := true
          streamValid := true
          seq := .idle
          done := true } ∧
        (∀ k ≤ e.eccWidth, t.ram .gen k = logRom ((genPoly e.eccWidth).getD k 0).toNat) ∧
        (∀ k < e.total, t.ram .stream k =
          (codewords stdParams v e ((List.range (min s.plen.toNat limit)).map fun j => s.ram .payload j)).getD k 0) ∧
        ∀ a, (∀ k ≤ e.eccWidth, a ≠ Ram.gen.addr k) → (∀ k < e.total, a ≠ Ram.stream.addr k) →
          t.byteAt a = s.byteAt a

/-- R173, R175, R176: the first size + H data codewords are the mode nibble 4, the length field of 8 or 16 bits, the payload
and four zero bits, packed most significant first. (Of a size that the length field cannot hold, which no default table
gives, the field takes the low bits: the model's choice, assumption log entry 16.) -/
def Obligations.HeaderAndPayloadCodewords : Prop :=
  ∀ (v : Nat) (e : BlockEntry) (payload : List Byte) (size : Nat), payload.length = size →
    size + (if v ≤ 9 then 2 else 3) ≤ e.capacity →
      ∀ k < size + (if v ≤ 9 then 2 else 3), ∀ nibbles : List Nat,
        nibbles = [4] ++
            (if v ≤ 9 then [size / 16 % 16, size % 16]
             else [size / 4096 % 16, size / 256 % 16, size / 16 % 16, size % 16]) ++
            payload.flatMap (fun p => [p.toNat / 16, p.toNat % 16]) ++ [0] →
          ((dataWords stdParams v e payload).getD k 0).toNat = 16 * nibbles.getD (2 * k) 0 + nibbles.getD (2 * k + 1) 0

/-- R177: data[size+H .. CAP−1] are 0xEC, 0x11, 0xEC, …, the first pad byte 0xEC, until CAP bytes are filled. -/
def Obligations.PaddingCodewords : Prop :=
  ∀ (v : Nat) (e : BlockEntry) (payload : List Byte) (n : Nat), payload.length + (if v ≤ 9 then 2 else 3) = n →
    n ≤ e.capacity →
      (dataWords stdParams v e payload).length = e.capacity ∧
        ∀ k, n ≤ k → k < e.capacity →
          (dataWords stdParams v e payload).getD k 0 = if (k - n) % 2 = 0 then 0xEC else 0x11

/-- R178, R179, R180, R183: where each data byte, extra byte and ECC byte of each block stands in the interleaved sequence;
with one block the sequence is the data followed by its ECC bytes. -/
def Obligations.InterleavePositions : Prop :=
  ∀ (v : Nat) (e : BlockEntry) (payload data out : List Byte), payload.length + (if v ≤ 9 then 2 else 3) ≤ e.capacity →
    data = dataWords stdParams v e payload → out = codewords stdParams v e payload →
      out.length = e.total ∧
        (∀ b < e.short + e.long, ∀ i < e.dataWidth,
          out.getD (i * (e.short + e.long) + b) 0 = data.getD (b * e.dataWidth + (b - e.short) + i) 0) ∧
        (∀ b, e.short ≤ b → b < e.short + e.long →
          out.getD (e.dataWidth * (e.short + e.long) + (b - e.short)) 0 =
            data.getD (b * e.dataWidth + (b - e.short) + e.dataWidth) 0) ∧
        (∀ b < e.short + e.long, ∀ k < e.eccWidth,
          out.getD (e.capacity + k * (e.short + e.long) + b) 0 =
            (rsEncode (genImage e.eccWidth) e.eccWidth
              ((data.drop (b * e.dataWidth + (b - e.short))).take
                (if b < e.short then e.dataWidth else e.dataWidth + 1))).getD k 0) ∧
        (e.short + e.long = 1 → out = data ++ rsEncode (genImage e.eccWidth) e.eccWidth data)

/-! ### The frame -/

/-- R200, R201, R202, R213: FRAME_BUILD with a legal VERSION, no frame and room in the arena zeroes both matrices and stamps
every pattern cell: RESERVED is 1 exactly at the cells put, BITMAP exactly at those put with a 1, padding bits x = W..8·S−1
are 0; it writes FRAME_BUILT, SELECTED, SYMBOL_VALID and ARENA_USED, and nothing else. -/
def Obligations.FrameBuildResult : Prop :=
  ∀ (s : State) (v W S : Nat), s.version.toNat = v → 1 ≤ v → v ≤ 40 → W = 17 + 4 * v → S = (W + 7) / 8 →
    s.frameBuilt = false → s.arenaUsed.toNat + 2 * (W * S) ≤ s.arenaLimit.toNat →
      ∃ t, exec .frameBuild s = .next t ∧
        t = { s with
          mem := t.mem
          arenaUsed := BitVec.ofNat 32 (s.arenaUsed.toNat + 2 * (W * S))
          frameBuilt := true
          selected := false
          symbolValid := false
          seq := .idle
          done := true } ∧
        (∀ x < 8 * S, ∀ y < W,
          (t.cell .reserved x y = true ↔ ∃ p ∈ framePuts stdParams v, p.x = x ∧ p.y = y) ∧
            (t.cell .bitmap x y = true ↔ ∃ p ∈ framePuts stdParams v, p.x = x ∧ p.y = y ∧ p.bit = true)) ∧
        (∀ x < 8 * S, W ≤ x → ∀ y < W, t.cell .reserved x y = false ∧ t.cell .bitmap x y = false) ∧
        ∀ a, (∀ k < W * S, a ≠ Ram.bitmap.addr k ∧ a ≠ Ram.reserved.addr k) → t.byteAt a = s.byteAt a

/-- R203, R204, R207, R208, R209, R210, R211, R212, R233: after FRAME_BUILD the finders, separators, dark module, timing strips
and version information read as the rules draw them, the 30 format cells are reserved and 0, column 6 is wholly reserved,
every free cell is 0, RESERVED is symmetric, and the free cells are exactly F(v) in number, so that no cell is reserved but
those the rules list; F(v) is 8·TOTAL and the remainder of R233, at every level (R171). -/
def Obligations.FrameGeometry : Prop :=
  ∀ (s t : State) (v W : Nat), s.version.toNat = v → 1 ≤ v → v ≤ 40 → W = 17 + 4 * v → s.frameBuilt = false →
    s.arenaUsed.toNat + 2 * (W * ((W + 7) / 8)) ≤ s.arenaLimit.toNat → exec .frameBuild s = .next t →
      (∀ o ∈ [(0, 0), (W - 7, 0), (0, W - 7)], ∀ dx < 7, ∀ dy < 7,
        t.cell .reserved (o.1 + dx) (o.2 + dy) = true ∧
          (t.cell .bitmap (o.1 + dx) (o.2 + dy) = true ↔ max (max dx 3 - min dx 3) (max dy 3 - min dy 3) ≠ 2)) ∧
      (∀ k < 8, ∀ c ∈ [(7, k), (k, 7), (W - 8, k), (W - 1 - k, 7), (7, W - 1 - k), (k, W - 8)],
        t.cell .reserved c.1 c.2 = true ∧ t.cell .bitmap c.1 c.2 = false) ∧
      t.cell .reserved 8 (W - 8) = true ∧ t.cell .bitmap 8 (W - 8) = true ∧
      (∀ k, 8 ≤ k → k ≤ W - 9 → ∀ c ∈ [(k, 6), (6, k)],
        t.cell .reserved c.1 c.2 = true ∧ (t.cell .bitmap c.1 c.2 = true ↔ k % 2 = 0)) ∧
      (7 ≤ v → ∀ k < 18, ∀ c ∈ [(k / 3, W - 11 + k % 3), (W - 11 + k % 3, k / 3)],
        t.cell .reserved c.1 c.2 = true ∧ t.cell .bitmap c.1 c.2 = (stdParams.versionWord v).getLsbD k) ∧
      (∀ k < 15, ∀ c ∈ [cellA W k, cellB k], t.cell .reserved c.1 c.2 = true ∧ t.cell .bitmap c.1 c.2 = false) ∧
      (∀ y < W, t.cell .reserved 6 y = true) ∧
      (∀ x < W, ∀ y < W, t.cell .reserved x y = false → t.cell .bitmap x y = false) ∧
      (∀ x < W, ∀ y < W, t.cell .reserved x y = t.cell .reserved y x) ∧
      ∀ free patterns shared : Nat,
        free = ((List.range W).map fun y => ((List.range W).map fun x =>
          if t.cell .reserved x y = false then 1 else 0).sum).sum →
        patterns = (alignCentres stdParams v).length →
        shared = ((alignCentres stdParams v).filter fun c => c.1 = 6 ∨ c.2 = 6).length →
          free + 192 + 2 * (W - 16) + 25 * patterns + 31 + (if 7 ≤ v then 36 else 0) = W * W + 5 * shared ∧
            ∀ l < 4, free = 8 * (stdParams.blockTable v l).total +
              (if v = 1 ∨ (7 ≤ v ∧ v ≤ 13) ∨ 35 ≤ v then 0 else if v ≤ 6 then 7 else if 21 ≤ v ∧ v ≤ 27 then 4 else 3)

/-- R205, R206: the alignment centres of every version from 2 are the pairs of the coordinates R206 lists for it, 6 to W − 7,
but for the three corners that would overlap finders, each once; version 1 has none; and after FRAME_BUILD each centre
carries the 5×5 ring pattern. -/
def Obligations.AlignmentPatterns : Prop :=
  alignCentres stdParams 1 = [] ∧
  (∀ (v : Nat) (coords : List Nat), 2 ≤ v → v ≤ 40 → coords =
    List.getD (
      [[6, 18], [6, 22], [6, 26], [6, 30], [6, 34], [6, 22, 38], [6, 24, 42], [6, 26, 46], [6, 28, 50],
       [6, 30, 54], [6, 32, 58], [6, 34, 62]] ++
      [[6, 26, 46, 66], [6, 26, 48, 70], [6, 26, 50, 74], [6, 30, 54, 78], [6, 30, 56, 82], [6, 30, 58, 86],
       [6, 34, 62, 90]] ++
      [[6, 28, 50, 72, 94], [6, 26, 50, 74, 98], [6, 30, 54, 78, 102], [6, 28, 54, 80, 106],
       [6, 32, 58, 84, 110], [6, 30, 58, 86, 114], [6, 34, 62, 90, 118]] ++
      [[6, 26, 50, 74, 98, 122], [6, 30, 54, 78, 102, 126], [6, 26, 52, 78, 104, 130],
       [6, 30, 56, 82, 108, 134], [6, 34, 60, 86, 112, 138], [6, 30, 58, 86, 114, 142],
       [6, 34, 62, 90, 118, 146]] ++
      [[6, 30, 54, 78, 102, 126, 150], [6, 24, 50, 76, 102, 128, 154], [6, 28, 54, 80, 106, 132, 158],
       [6, 32, 58, 84, 110, 136, 162], [6, 26, 54, 82, 110, 138, 166], [6, 30, 58, 86, 114, 142, 170]])
      (v - 2) [] →
    coords.head? = some 6 ∧ coords.getLast? = some (17 + 4 * v - 7) ∧ coords.Pairwise (· < ·) ∧ (∀ c ∈ coords, c % 2 = 0) ∧
      (∀ x y, (x, y) ∈ alignCentres stdParams v ↔
        x ∈ coords ∧ y ∈ coords ∧ (x, y) ∉ [(6, 6), (6, 17 + 4 * v - 7), (17 + 4 * v - 7, 6)]) ∧
      (alignCentres stdParams v).length = coords.length * coords.length - 3) ∧
  ∀ (s t : State) (v W : Nat), s.version.toNat = v → 1 ≤ v → v ≤ 40 → W = 17 + 4 * v → s.frameBuilt = false →
    s.arenaUsed.toNat + 2 * (W * ((W + 7) / 8)) ≤ s.arenaLimit.toNat → exec .frameBuild s = .next t →
      ∀ c ∈ alignCentres stdParams v, ∀ dx < 5, ∀ dy < 5,
        t.cell .reserved (c.1 - 2 + dx) (c.2 - 2 + dy) = true ∧
          (t.cell .bitmap (c.1 - 2 + dx) (c.2 - 2 + dy) = true ↔
            max (max dx 2 - min dx 2) (max dy 2 - min dy 2) ≠ 1)

/-- R209, R270: every VERSION_WORD and FORMAT_WORD is its data bits followed by the BCH remainder (format words XORed with
0x5412): the remainder bits make the whole word divisible by the generator over GF(2). -/
def Obligations.VersionAndFormatWords : Prop :=
  (∀ v, 7 ≤ v → v ≤ 40 →
    (stdParams.versionWord v).toNat =
      (v <<< 12) ||| ([17, 16, 15, 14, 13, 12].foldl
        (fun r k => if r.testBit k then r ^^^ (0x1F25 <<< (k - 12)) else r) (v <<< 12))) ∧
  (∀ l < 4, ∀ m < 8, ∀ dat : Nat, dat = ([0b01, 0b00, 0b11, 0b10].getD l 0 <<< 3) ||| m →
    (stdParams.formatWord l m).toNat =
      ((dat <<< 10) ||| ([14, 13, 12, 11, 10].foldl
        (fun r k => if r.testBit k then r ^^^ (0x537 <<< (k - 10)) else r) (dat <<< 10))) ^^^ 0x5412)

/-! ### Placement -/

/-- R231, R234: the placement path visits the free cells band by band from the right, right columns W−1, W−3, …, 8, then 5,
3, 1, the first band upward and then alternating, in each row the right column first; it repeats no cell; and where column
6 is wholly reserved, it visits every free cell and no reserved cell. -/
def Obligations.PathCoversFreeCells : Prop :=
  ∀ (v W : Nat) (reserved : Nat → Nat → Bool) (right : List Nat), 1 ≤ v → v ≤ 40 → W = 17 + 4 * v →
    right = ((List.range ((W - 7) / 2)).map fun k => W - 1 - 2 * k) ++ [5, 3, 1] →
      path W reserved = ((List.range right.length).flatMap fun j => (List.range W).flatMap fun i =>
        [(right.getD j 0, if j % 2 = 0 then W - 1 - i else i),
          (right.getD j 0 - 1, if j % 2 = 0 then W - 1 - i else i)]).filter (fun c => !reserved c.1 c.2) ∧
      (path W reserved).Nodup ∧
      ((∀ y < W, reserved 6 y = true) →
        ∀ x y, (x, y) ∈ path W reserved ↔ x < W ∧ y < W ∧ reserved x y = false)

/-- R230, R232, R233: PLACE with a legal VERSION, a frame and a stream writes bit 7 − (n mod 8) of STREAM[n div 8] to the nth
cell of the path for n < 8·TOTAL and 0 to the later ones; no other bit of either matrix and no other byte changes; PLACED
is set, SELECTED and SYMBOL_VALID are cleared and nothing else is written. -/
def Obligations.PlaceResult : Prop :=
  ∀ (s : State) (v W total : Nat) (p : List (Nat × Nat)), s.version.toNat = v → 1 ≤ v → v ≤ 40 → W = 17 + 4 * v →
    total = (stdParams.blockTable v s.eccLvl.toNat).total → s.frameBuilt = true → s.streamValid = true →
    p = path W (s.cell .reserved) →
      ∃ t, exec .place s = .next t ∧
        t = { s with
          mem := t.mem
          placed := true
          selected := false
          symbolValid := false
          seq := .idle
          done := true } ∧
        (∀ n < p.length, ∀ c, p.getD n (0, 0) = c →
          t.cell .bitmap c.1 c.2 =
            if n < 8 * total then (s.ram .stream (n / 8)).getLsbD (7 - n % 8) else false) ∧
        (∀ x < 8 * ((W + 7) / 8), ∀ y < W, (x, y) ∉ p → t.cell .bitmap x y = s.cell .bitmap x y) ∧
        ∀ a, (∀ k < W * ((W + 7) / 8), a ≠ Ram.bitmap.addr k) → t.byteAt a = s.byteAt a

/-! ### Masks, scores and format -/

/-- R251: the eight mask predicates, x the column and y the row. -/
def Obligations.MaskPredicates : Prop :=
  ∀ x y : Nat,
    (stdParams.maskPred 0 x y = true ↔ (x + y) % 2 = 0) ∧ (stdParams.maskPred 1 x y = true ↔ y % 2 = 0) ∧
    (stdParams.maskPred 2 x y = true ↔ x % 3 = 0) ∧ (stdParams.maskPred 3 x y = true ↔ (x + y) % 3 = 0) ∧
    (stdParams.maskPred 4 x y = true ↔ (y / 2 + x / 3) % 2 = 0) ∧
    (stdParams.maskPred 5 x y = true ↔ x * y % 2 + x * y % 3 = 0) ∧
    (stdParams.maskPred 6 x y = true ↔ (x * y % 2 + x * y % 3) % 2 = 0) ∧
    (stdParams.maskPred 7 x y = true ↔ ((x + y) % 2 + x * y % 3) % 2 = 0)

/-- R250, R252, R213: MASK_APPLY m with a legal VERSION and a frame inverts every free cell whose predicate holds and no other
bit or byte; SELECTED and SYMBOL_VALID are cleared and nothing else is written. -/
def Obligations.MaskApplyResult : Prop :=
  ∀ (s : State) (v W m : Nat), s.version.toNat = v → 1 ≤ v → v ≤ 40 → W = 17 + 4 * v → s.frameBuilt = true → m < 8 →
    ∃ t, exec (.maskApply m) s = .next t ∧
      t = { s with mem := t.mem, selected := false, symbolValid := false, seq := .idle, done := true } ∧
      (∀ x < 8 * ((W + 7) / 8), ∀ y < W,
        t.cell .bitmap x y =
          if x < W ∧ s.cell .reserved x y = false ∧ stdParams.maskPred m x y = true then !s.cell .bitmap x y
          else s.cell .bitmap x y) ∧
      ∀ a, (∀ k < W * ((W + 7) / 8), a ≠ Ram.bitmap.addr k) → t.byteAt a = s.byteAt a

/-- R253: applying any of the eight masks twice leaves BITMAP, and every other byte, unchanged. -/
def Obligations.MaskIsSelfInverse : Prop :=
  ∀ (s : State) (m : Nat), 1 ≤ s.version.toNat → s.version.toNat ≤ 40 → s.frameBuilt = true → m < 8 →
    ∃ t u, exec (.maskApply m) s = .next t ∧ exec (.maskApply m) t = .next u ∧ ∀ a, u.byteAt a = s.byteAt a

/-- R254: the run list of a line spells the line out in runs of alternating colour, a light run first, and only that first
run may be empty. -/
def Obligations.RunListSpellsLine : Prop :=
  ∀ line : List Bool,
    ((List.range (runList line).length).flatMap fun k => List.replicate ((runList line).getD k 0) (k % 2 == 1)) = line ∧
      (∀ k, 1 ≤ k → k < (runList line).length → 1 ≤ (runList line).getD k 0) ∧ 1 ≤ (runList line).length

/-- R255, R257, R258, R256: the four penalties of a matrix c, cell by cell and line by line: every run of 5 or more adds
3 + (run − 5); every 2×2 block of one colour adds 3; every finder-like pattern in a run list adds 40; the balance is
10·floor(10·|2D − N| / N). -/
def Obligations.PenaltyRules : Prop :=
  ∀ (W : Nat) (c : Nat → Nat → Bool) (lines : List (List Bool)), 1 ≤ W →
    lines = ((List.range W).map fun y => (List.range W).map fun x => c x y) ++
      ((List.range W).map fun x => (List.range W).map fun y => c x y) →
      (penalties W (gridOf W c)).p1 =
          (lines.map fun l => ((runList l).map fun n => if 5 ≤ n then 3 + (n - 5) else 0).sum).sum ∧
        (penalties W (gridOf W c)).p2 =
          ((List.range (W - 1)).map fun y => ((List.range (W - 1)).map fun x =>
            if c x y = c (x + 1) y ∧ c x y = c x (y + 1) ∧ c x y = c (x + 1) (y + 1) then 3 else 0).sum).sum ∧
        (penalties W (gridOf W c)).p3 =
          (lines.map fun l => ((List.range (runList l).length).map fun i =>
            if i % 2 = 1 ∧ 3 ≤ i ∧ i + 2 < (runList l).length ∧
                (runList l).getD (i - 2) 0 = (runList l).getD (i - 1) 0 ∧
                (runList l).getD (i + 1) 0 = (runList l).getD (i - 1) 0 ∧
                (runList l).getD (i + 2) 0 = (runList l).getD (i - 1) 0 ∧
                (runList l).getD i 0 = 3 * (runList l).getD (i - 1) 0 ∧
                ((runList l).getD (i - 3) 0 = 0 ∨ 4 * (runList l).getD i 0 ≤ 3 * (runList l).getD (i - 3) 0 ∨
                  (runList l).length ≤ i + 3 ∨ 4 * (runList l).getD i 0 ≤ 3 * (runList l).getD (i + 3) 0)
              then 40 else 0).sum).sum ∧
        (penalties W (gridOf W c)).dark =
          ((List.range W).map fun y => ((List.range W).map fun x => if c x y = true then 1 else 0).sum).sum ∧
        (penalties W (gridOf W c)).p4 =
          10 * (10 * (max (2 * (penalties W (gridOf W c)).dark) (W * W) -
            min (2 * (penalties W (gridOf W c)).dark) (W * W)) / (W * W))

/-- R259, R260: MASK_SCORE with a legal VERSION and a frame writes the four penalties and the dark count of BITMAP as it
stands to PEN1..PEN4 and DARK, their sum to RESULT, and nothing else. -/
def Obligations.MaskScoreResult : Prop :=
  ∀ (s : State) (v : Nat) (p : Penalty), s.version.toNat = v → 1 ≤ v → v ≤ 40 → s.frameBuilt = true →
    p = penalties (17 + 4 * v) (gridOf (17 + 4 * v) (s.cell .bitmap)) →
      exec .maskScore s =
        .next { s with
          pen1 := BitVec.ofNat 32 p.p1
          pen2 := BitVec.ofNat 32 p.p2
          pen3 := BitVec.ofNat 32 p.p3
          pen4 := BitVec.ofNat 32 p.p4
          dark := BitVec.ofNat 32 p.dark
          result := BitVec.ofNat 32 (p.p1 + p.p2 + p.p3 + p.p4)
          seq := .idle
          done := true }

/-- R259: no penalty total of a legal matrix reaches 2^32, so no 32-bit score register overflows. -/
def Obligations.ScoresFit : Prop :=
  ∀ (v : Nat) (c : Nat → Nat → Bool), 1 ≤ v → v ≤ 40 →
    (penalties (17 + 4 * v) (gridOf (17 + 4 * v) c)).p1 + (penalties (17 + 4 * v) (gridOf (17 + 4 * v) c)).p2 +
      (penalties (17 + 4 * v) (gridOf (17 + 4 * v) c)).p3 + (penalties (17 + 4 * v) (gridOf (17 + 4 * v) c)).p4 < 2 ^ 32

/-- R261, R262: MASK_SELECT with a legal VERSION and a frame scores each mask m as MASK_APPLY m followed by MASK_SCORE on the
matrix as it stands would, keeps the least m of the lowest score, applies that mask to the pre-mask matrix, and writes
SCORE0..7, BEST, RESULT, SELECTED and SYMBOL_VALID, and nothing else. -/
def Obligations.MaskSelectResult : Prop :=
  ∀ s : State, 1 ≤ s.version.toNat → s.version.toNat ≤ 40 → s.frameBuilt = true →
    ∃ t b u, exec .maskSelect s = .next t ∧ b < 8 ∧ exec (.maskApply b) s = .next u ∧
      t = { s with
        mem := t.mem
        scores := t.scores
        bestId := BitVec.ofNat 3 b
        bestValid := true
        result := t.scores.toList.getD b 0
        selected := true
        symbolValid := false
        seq := .idle
        done := true } ∧
      (∀ a, t.byteAt a = u.byteAt a) ∧
      (∀ m < 8, ∃ q r, exec (.maskApply m) s = .next q ∧ exec .maskScore q = .next r ∧
        t.scores.toList.getD m 0 = r.result) ∧
      (∀ m < 8, (t.scores.toList.getD b 0).toNat ≤ (t.scores.toList.getD m 0).toNat) ∧
      ∀ m < b, (t.scores.toList.getD b 0).toNat < (t.scores.toList.getD m 0).toNat

/-- R271, R272: FORMAT_EMBED m with a legal VERSION and a frame writes bit k of FORMAT_WORD(ECCLVL, m) to the two cells of
R271, k = 0..14, and no other bit or byte; SYMBOL_VALID becomes SELECTED = 1 and BEST.VALID = 1 and m = BEST.ID, and nothing
else is written. -/
def Obligations.FormatEmbedResult : Prop :=
  ∀ (s : State) (v W m : Nat), s.version.toNat = v → 1 ≤ v → v ≤ 40 → W = 17 + 4 * v → s.frameBuilt = true → m < 8 →
    ∃ t, exec (.formatEmbed m) s = .next t ∧
      t = { s with
        mem := t.mem
        symbolValid := s.selected && s.bestValid && decide (m = s.bestId.toNat)
        seq := .idle
        done := true } ∧
      (∀ i < 8, t.cell .bitmap (W - 1 - i) 8 = (stdParams.formatWord s.eccLvl.toNat m).getLsbD i ∧
        t.cell .bitmap 8 (if i < 6 then i else i + 1) = (stdParams.formatWord s.eccLvl.toNat m).getLsbD i) ∧
      (∀ j < 7, t.cell .bitmap 8 (W - 7 + j) = (stdParams.formatWord s.eccLvl.toNat m).getLsbD (8 + j) ∧
        t.cell .bitmap (if j = 0 then 7 else 6 - j) 8 = (stdParams.formatWord s.eccLvl.toNat m).getLsbD (8 + j)) ∧
      (∀ x < 8 * ((W + 7) / 8), ∀ y < W, (∀ k < 15, (x, y) ≠ cellA W k ∧ (x, y) ≠ cellB k) →
        t.cell .bitmap x y = s.cell .bitmap x y) ∧
      ∀ a, (∀ k < W * ((W + 7) / 8), a ≠ Ram.bitmap.addr k) → t.byteAt a = s.byteAt a

/-! ### Sessions, ENCODE and errors -/

/-- R290: NOP changes nothing but DONE (and ends BUSY). -/
def Obligations.NopResult : Prop :=
  decode 0x00000000 = .ok .nop ∧ ∀ s : State, exec .nop s = .next { s with seq := .idle, done := true }

/-- R291: SESSION_BEGIN clears the session flags, BEST, USED_LEN, the score registers and ARENA_USED; CFG, PLEN, ARG0..ARG2,
RESULT, ERRCODE, ERR, ARENA_LIMIT, GEN_LEN, CTRL and every RAM keep their contents. -/
def Obligations.SessionBeginResult : Prop :=
  decode 0x00000070 = .ok .sessionBegin ∧
    ∀ s : State, exec .sessionBegin s =
      .next { s with
        frameBuilt := false
        streamValid := false
        genValid := false
        placed := false
        selected := false
        symbolValid := false
        truncated := false
        bestId := 0
        bestValid := false
        usedLen := 0
        pen1 := 0
        pen2 := 0
        pen3 := 0
        pen4 := 0
        dark := 0
        scores := Vector.replicate 8 0
        arenaUsed := 0
        seq := .idle
        done := true }

/-- R292: with a legal VERSION, no frame in this session and room in the arena, ENCODE completes without error and ends in the
very state that STREAM_BUILD, FRAME_BUILD, PLACE, MASK_SELECT and FORMAT_EMBED(BEST.ID), run one after another, end in, with
the session flags the rule lists. -/
def Obligations.EncodeRunsThePipeline : Prop :=
  ∀ (s : State) (W : Nat) (e : BlockEntry), 1 ≤ s.version.toNat → s.version.toNat ≤ 40 →
    stdParams.blockTable s.version.toNat s.eccLvl.toNat = e → W = 17 + 4 * s.version.toNat → s.frameBuilt = false →
    s.arenaUsed.toNat + e.total + 2 * (W * ((W + 7) / 8)) ≤ s.arenaLimit.toNat →
      ∃ s1 s2 s3 s4 t, exec .streamBuild s = .next s1 ∧ exec .frameBuild s1 = .next s2 ∧ exec .place s2 = .next s3 ∧
        exec .maskSelect s3 = .next s4 ∧ exec (.formatEmbed s4.bestId.toNat) s4 = .next t ∧
        exec .encode s = .next t ∧
        t.streamValid = true ∧ t.genValid = true ∧ t.frameBuilt = true ∧ t.placed = true ∧ t.selected = true ∧
        t.symbolValid = true ∧ t.truncated = s1.truncated ∧ t.result = s4.result ∧ t.err = s.err ∧
        t.errCode = s.errCode

/-- R292, R293, R320: when the arena has room for the stream but not for the frame, ENCODE ends with ARENA_EXHAUSTED in the
state STREAM_BUILD has left: its effects are kept, no later sub-step runs, and no symbol is signalled (in a state that meets
the invariant). -/
def Obligations.EncodeKeepsCompletedSteps : Prop :=
  ∀ (s : State) (W : Nat) (e : BlockEntry), 1 ≤ s.version.toNat → s.version.toNat ≤ 40 →
    stdParams.blockTable s.version.toNat s.eccLvl.toNat = e → W = 17 + 4 * s.version.toNat → s.frameBuilt = false →
    s.arenaUsed.toNat + e.total ≤ s.arenaLimit.toNat →
    s.arenaLimit.toNat < s.arenaUsed.toNat + e.total + 2 * (W * ((W + 7) / 8)) →
      ∃ t, exec .streamBuild s = .next t ∧ t.streamValid = true ∧ t.genValid = true ∧ t.frameBuilt = false ∧
        t.arenaUsed.toNat = s.arenaUsed.toNat + e.total ∧ (s.Inv → t.symbolValid = false) ∧
        exec .encode s =
          .next { t with err := true, errCode := if s.err then s.errCode else .arenaExhausted }

/-- R320, R322, R323, R326, R330: when each command raises each error, in the order of priority: it completes with ERR set,
ERRCODE if ERR was 0, DONE set, BUSY cleared and nothing else written. -/
def Obligations.CommandErrors : Prop :=
  ∀ (s : State) (v W : Nat) (e : BlockEntry) (raises : ErrCode → State), s.version.toNat = v → W = 17 + 4 * v →
    stdParams.blockTable v s.eccLvl.toNat = e →
    (∀ c, raises c =
      { s with err := true, errCode := if s.err then s.errCode else c, seq := .idle, done := true }) →
      (v = 0 ∨ 40 < v → ∀ i : Instr,
        (i ∈ [Instr.streamBuild, .frameBuild, .place, .maskScore, .maskSelect, .encode] ∨
          (∃ m, i = .maskApply m) ∨ ∃ m, i = .formatEmbed m) → exec i s = .next (raises .badCfg)) ∧
      ((s.arg0.extractLsb' 0 8).toNat = 0 ∨ 68 < (s.arg0.extractLsb' 0 8).toNat →
        exec .rsGen s = .next (raises .badArg)) ∧
      (s.genValid = false → exec .rsEnc s = .next (raises .seq)) ∧
      (s.genValid = true →
        (4096 < (s.arg0.extractLsb' 0 12).toNat + (s.arg2.extractLsb' 0 8).toNat ∨
          4096 < (s.arg1.extractLsb' 0 12).toNat + s.genLen.toNat) → exec .rsEnc s = .next (raises .badArg)) ∧
      (1 ≤ v → v ≤ 40 →
        (s.arenaLimit.toNat < s.arenaUsed.toNat + e.total →
          exec .streamBuild s = .next (raises .arenaExhausted) ∧
            (s.frameBuilt = false → exec .encode s = .next (raises .arenaExhausted))) ∧
        (s.frameBuilt = true →
          exec .frameBuild s = .next (raises .frameAlreadyBuilt) ∧
            exec .encode s = .next (raises .frameAlreadyBuilt)) ∧
        (s.frameBuilt = false → s.arenaLimit.toNat < s.arenaUsed.toNat + 2 * (W * ((W + 7) / 8)) →
          exec .frameBuild s = .next (raises .arenaExhausted)) ∧
        (s.frameBuilt = false ∨ s.streamValid = false → exec .place s = .next (raises .seq)) ∧
        (s.frameBuilt = false →
          exec .maskScore s = .next (raises .seq) ∧ exec .maskSelect s = .next (raises .seq) ∧
            ∀ m, exec (.maskApply m) s = .next (raises .seq) ∧ exec (.formatEmbed m) s = .next (raises .seq)))
end

