-- ==== Sys2Proof/Laws/Memory.lean ====
section
/-! SUPPORT. The laws of memory: read after write, every operation keeps the canonical form, what runs of bytes and
matrix writes change. -/

namespace Sys2Proof.Machine

/-! ### Addresses -/

theorem Ram.addr_inj {r : Ram} {i j : Nat} : r.addr i = r.addr j ↔ i = j := by
  unfold Ram.addr; omega

theorem Ram.addr_ne_of_ne {r q : Ram} {i j : Nat} (hr : i < r.size) (hq : j < q.size) (h : r ≠ q) :
    r.addr i ≠ q.addr j := by
  cases r <;> cases q <;> simp_all [Ram.addr, Ram.base, Ram.size] <;> omega

theorem Ram.holds_iff {r : Ram} {a : Nat} :
    r.holds a = true ↔ r.base ≤ a ∧ a < r.base + 4 * r.size ∧ a % 4 = 0 := by
  simp [Ram.holds, and_assoc]

theorem Ram.holds_addr {r : Ram} {i : Nat} (h : i < r.size) : r.holds (r.addr i) = true := by
  rw [Ram.holds_iff]
  cases r <;> simp only [Ram.addr, Ram.base, Ram.size] at * <;> omega

theorem isRamAddr_addr {r : Ram} {i : Nat} (h : i < r.size) : isRamAddr (r.addr i) = true := by
  have := Ram.holds_addr h
  cases r <;> simp_all [isRamAddr]

/-! ### One byte -/

@[simp] theorem Memory.find_nil (a : Nat) : Memory.find [] a = none := rfl

theorem Memory.find_store_same (m : Memory) (a : Nat) (b : Byte) : Memory.find (Memory.store m a b) a = some b := by
  induction m with
  | nil => simp [Memory.store, Memory.find]
  | cons c rest ih =>
    obtain ⟨k, d⟩ := c
    unfold Memory.store
    split
    · simp [Memory.find]
    · split
      · simp [Memory.find]
      · rename_i h1 h2
        simp [Memory.find, h1, h2, ih]

theorem Memory.find_store_ne (m : Memory) {a a' : Nat} (b : Byte) (h : a' ≠ a) :
    Memory.find (Memory.store m a b) a' = Memory.find m a' := by
  induction m with
  | nil => simp [Memory.store, Memory.find, h]
  | cons c rest ih =>
    obtain ⟨k, d⟩ := c
    unfold Memory.store
    split
    · rename_i h1
      by_cases h2 : a' < a
      · have h3 : a' ≠ k := by omega
        have h4 : a' < k := by omega
        simp [Memory.find, h, h2, h3, h4]
      · simp [Memory.find, h, h2]
    · split
      · rename_i h1 h2
        subst h2
        simp [Memory.find, h]
      · simp [Memory.find, ih]

@[simp] theorem Memory.byte_store_same (f : Nat) (m : Memory) (a : Nat) (b : Byte) :
    Memory.byte f (Memory.store m a b) a = b := by
  simp [Memory.byte, Memory.find_store_same]

theorem Memory.byte_store_ne (f : Nat) (m : Memory) {a a' : Nat} (b : Byte) (h : a' ≠ a) :
    Memory.byte f (Memory.store m a b) a' = Memory.byte f m a' := by
  simp [Memory.byte, Memory.find_store_ne m b h]

/-! ### The canonical form -/

theorem Memory.wf_nil : Memory.wf [] := ⟨List.Pairwise.nil, by simp⟩

theorem Memory.mem_store {m : Memory} {a : Nat} {b : Byte} {c : Host.Cell} (h : c ∈ Memory.store m a b) :
    c = (a, b) ∨ c ∈ m := by
  induction m with
  | nil => simpa [Memory.store] using h
  | cons d rest ih =>
    obtain ⟨k, e⟩ := d
    unfold Memory.store at h
    split at h
    · simpa using h
    · split at h
      · simp only [List.mem_cons] at h ⊢; tauto
      · simp only [List.mem_cons] at h ⊢
        rcases h with h | h
        · exact .inr (.inl h)
        · rcases ih h with h | h
          · exact .inl h
          · exact .inr (.inr h)

theorem Memory.store_rising {m : Memory} {a : Nat} {b : Byte} (h : (m.map Prod.fst).Pairwise (· < ·)) :
    ((Memory.store m a b).map Prod.fst).Pairwise (· < ·) := by
  induction m with
  | nil => simp [Memory.store]
  | cons d rest ih =>
    obtain ⟨k, e⟩ := d
    rw [List.map_cons, List.pairwise_cons] at h
    obtain ⟨hk, hr⟩ := h
    unfold Memory.store
    split
    · rename_i hak
      simp only [List.map_cons, List.pairwise_cons, List.mem_cons, forall_eq_or_imp]
      exact ⟨⟨hak, fun y hy => by have := hk y hy; omega⟩, hk, hr⟩
    · split
      · rename_i hak
        subst hak
        simp only [List.map_cons, List.pairwise_cons]
        exact ⟨hk, hr⟩
      · rename_i h1 h2
        simp only [List.map_cons, List.pairwise_cons]
        refine ⟨?_, ih hr⟩
        intro y hy
        obtain ⟨c, hc, rfl⟩ := List.mem_map.mp hy
        rcases Memory.mem_store hc with rfl | hc
        · simp only; omega
        · exact hk _ (List.mem_map.mpr ⟨c, hc, rfl⟩)

theorem Memory.wf_store {m : Memory} {a : Nat} {b : Byte} (h : Memory.wf m) (ha : isRamAddr a = true) :
    Memory.wf (Memory.store m a b) := by
  refine ⟨Memory.store_rising h.1, fun c hc => ?_⟩
  rcases Memory.mem_store hc with rfl | hc
  · exact ha
  · exact h.2 c hc

/-! ### Runs of bytes -/

theorem Memory.byte_storeBytes_of_ne (f : Nat) (bs : List Byte) (m : Memory) (a : Nat) {c : Nat}
    (h : ∀ k < bs.length, c ≠ a + 4 * k) : Memory.byte f (Memory.storeBytes m a bs) c = Memory.byte f m c := by
  induction bs generalizing m a with
  | nil => rfl
  | cons b bs ih =>
    have h0 : c ≠ a := by simpa using h 0 (by simp)
    unfold Memory.storeBytes
    rw [ih (Memory.store m a b) (a + 4), Memory.byte_store_ne f m b h0]
    intro k hk
    have := h (k + 1) (by simpa using hk)
    omega

theorem Memory.byte_storeBytes_at (f : Nat) (bs : List Byte) (m : Memory) (a k : Nat) (h : k < bs.length) :
    Memory.byte f (Memory.storeBytes m a bs) (a + 4 * k) = bs.getD k 0 := by
  induction bs generalizing m a k with
  | nil => simp at h
  | cons b bs ih =>
    unfold Memory.storeBytes
    cases k with
    | zero =>
      rw [Memory.byte_storeBytes_of_ne]
      · simp
      · intro j _; omega
    | succ k =>
      have e : a + 4 * (k + 1) = (a + 4) + 4 * k := by omega
      rw [e, ih _ _ _ (by simpa using h)]
      simp

theorem Memory.wf_storeBytes (bs : List Byte) {m : Memory} {a : Nat} (h : Memory.wf m)
    (ha : ∀ k < bs.length, isRamAddr (a + 4 * k) = true) : Memory.wf (Memory.storeBytes m a bs) := by
  induction bs generalizing m a with
  | nil => exact h
  | cons b bs ih =>
    unfold Memory.storeBytes
    apply ih (Memory.wf_store h (by simpa using ha 0 (by simp)))
    intro k hk
    have := ha (k + 1) (by simpa using hk)
    rwa [show a + 4 * (k + 1) = a + 4 + 4 * k by omega] at this

/-- A run of bytes of one RAM: byte k of the run, and every byte outside it. -/
theorem Memory.byte_storeBytes_ram (f : Nat) (m : Memory) (r : Ram) (start : Nat) (bs : List Byte) (i : Nat) :
    Memory.byte f (Memory.storeBytes m (r.addr start) bs) (r.addr i) =
      if start ≤ i ∧ i < start + bs.length then bs.getD (i - start) 0 else Memory.byte f m (r.addr i) := by
  split
  · rename_i h
    have e : r.addr i = r.addr start + 4 * (i - start) := by unfold Ram.addr; omega
    rw [e, Memory.byte_storeBytes_at f bs m _ _ (by omega)]
  · rename_i h
    apply Memory.byte_storeBytes_of_ne
    intro k hk e
    unfold Ram.addr at e
    omega

/-- A run of bytes of one RAM leaves the other RAMs alone. -/
theorem Memory.byte_storeBytes_other (f : Nat) (m : Memory) {r q : Ram} (start : Nat) (bs : List Byte) {i : Nat}
    (hb : start + bs.length ≤ r.size) (hi : i < q.size) (h : q ≠ r) :
    Memory.byte f (Memory.storeBytes m (r.addr start) bs) (q.addr i) = Memory.byte f m (q.addr i) := by
  apply Memory.byte_storeBytes_of_ne
  intro k hk
  rw [show r.addr start + 4 * k = r.addr (start + k) by unfold Ram.addr; omega]
  exact Ram.addr_ne_of_ne hi (by omega) h

theorem Memory.wf_storeBytes_ram {m : Memory} {r : Ram} {start : Nat} {bs : List Byte} (h : Memory.wf m)
    (hb : start + bs.length ≤ r.size) : Memory.wf (Memory.storeBytes m (r.addr start) bs) := by
  apply Memory.wf_storeBytes _ h
  intro k hk
  rw [show r.addr start + 4 * k = r.addr (start + k) by unfold Ram.addr; omega]
  exact isRamAddr_addr (by omega)

/-! ### Forgotten bytes -/

theorem Memory.byte_forget_of_not_mem (f n : Nat) (as : List Nat) (m : Memory) {a : Nat} (h : a ∉ as) :
    Memory.byte f (Memory.forget n as m) a = Memory.byte f m a := by
  unfold Memory.forget
  induction as generalizing m with
  | nil => rfl
  | cons b as ih =>
    simp only [List.mem_cons, not_or] at h
    rw [List.foldl_cons, ih _ h.2, Memory.byte_store_ne f m _ h.1]

theorem Memory.byte_forget_of_mem (f n : Nat) (as : List Nat) (m : Memory) {a : Nat} (h : a ∈ as) :
    Memory.byte f (Memory.forget n as m) a = Config.freeByte n a := by
  unfold Memory.forget
  induction as generalizing m with
  | nil => simp at h
  | cons b as ih =>
    rw [List.foldl_cons]
    by_cases hm : a ∈ as
    · exact ih _ hm
    · have hb : a = b := by simpa [hm] using h
      subst hb
      have := Memory.byte_forget_of_not_mem f n as (Memory.store m a (Config.freeByte n a)) hm
      unfold Memory.forget at this
      rw [this, Memory.byte_store_same]

theorem Memory.wf_forget {n : Nat} {as : List Nat} {m : Memory} (h : Memory.wf m) (ha : ∀ a ∈ as, isRamAddr a = true) :
    Memory.wf (Memory.forget n as m) := by
  unfold Memory.forget
  induction as generalizing m with
  | nil => exact h
  | cons b as ih =>
    exact ih (Memory.wf_store h (ha b (by simp))) fun a h' => ha a (by simp [h'])

end Sys2Proof.Machine
end

