-- ==== Sys2Proof/Laws/Matrix.lean ====
section
/-! SUPPORT. The laws of matrix writes (20_memory.md R72): what a write to one cell does to every cell and byte, and what a
list of writes does. A padding bit x ≥ W of a row obeys the same laws as a cell, as long as x < 8·S. -/

namespace Sys2Proof.Machine

/-! ### One bit of a byte -/

theorem getLsbD_setBit (v : Byte) {k : Nat} (b : Bool) (hk : k < 8) (j : Nat) :
    (setBit v k b).getLsbD j = if j = k then b else v.getLsbD j := by
  unfold setBit
  by_cases hj : j < 8
  · by_cases h : j = k
    · subst h
      cases b <;> simp [hj]
    · by_cases hjk : j < k
      · simp [h, hj, hjk]
      · have : j - k ≠ 0 := by omega
        simp [h, hj, hjk, this]
  · rw [BitVec.getLsbD_of_ge _ j (by omega), BitVec.getLsbD_of_ge v j (by omega)]
    rw [if_neg (by omega)]

/-- Two cells of a matrix share a bit only if they are the same cell. -/
theorem cell_place_inj {S x y x' y' : Nat} (h : x / 8 < S) (h' : x' / 8 < S)
    (hb : cellByte S x y = cellByte S x' y') (hk : cellBit x = cellBit x') : x = x' ∧ y = y' := by
  unfold cellByte at hb
  unfold cellBit at hk
  have hy : y = y' := by
    have h1 : (y * S + x / 8) / S = y := by
      rw [Nat.add_comm, Nat.add_mul_div_right _ _ (by omega), Nat.div_eq_of_lt h]; omega
    have h2 : (y' * S + x' / 8) / S = y' := by
      rw [Nat.add_comm, Nat.add_mul_div_right _ _ (by omega), Nat.div_eq_of_lt h']; omega
    rw [← h1, hb, h2]
  subst hy
  omega

/-! ### One cell write -/

/-- What a cell write does to the cells of its matrix. -/
theorem Memory.cell_storeCell (f : Nat) (r : Ram) (S : Nat) (m : Memory) (w : CellWrite) {x y : Nat}
    (hx : x / 8 < S) (hw : w.x / 8 < S) :
    Memory.cell f r S (Memory.storeCell f r S m w) x y =
      if x = w.x ∧ y = w.y then w.bit else Memory.cell f r S m x y := by
  unfold Memory.cell Memory.storeCell
  by_cases ha : cellByte S x y = cellByte S w.x w.y
  · rw [ha, Memory.byte_store_same, getLsbD_setBit _ _ (by unfold cellBit; omega)]
    by_cases hk : cellBit x = cellBit w.x
    · obtain ⟨h1, h2⟩ := cell_place_inj hx hw ha hk
      simp [h1, h2]
    · have : ¬(x = w.x ∧ y = w.y) := by rintro ⟨rfl, -⟩; exact hk rfl
      rw [if_neg hk, if_neg this]
  · rw [Memory.byte_store_ne _ _ _ (by rw [Ne, Ram.addr_inj]; exact ha)]
    have : ¬(x = w.x ∧ y = w.y) := by rintro ⟨rfl, rfl⟩; exact ha rfl
    rw [if_neg this]

/-- A cell write changes no byte but its own. -/
theorem Memory.byte_storeCell_of_ne (f g : Nat) (r : Ram) (S : Nat) (m : Memory) (w : CellWrite) {a : Nat}
    (h : a ≠ r.addr (cellByte S w.x w.y)) :
    Memory.byte g (Memory.storeCell f r S m w) a = Memory.byte g m a := by
  unfold Memory.storeCell
  exact Memory.byte_store_ne g m _ h

/-! ### Lists of cell writes -/

@[simp] theorem Memory.storeCells_nil (f : Nat) (r : Ram) (S : Nat) (m : Memory) :
    Memory.storeCells f r S m [] = m := rfl

@[simp] theorem Memory.storeCells_cons (f : Nat) (r : Ram) (S : Nat) (m : Memory) (w : CellWrite) (ws : List CellWrite) :
    Memory.storeCells f r S m (w :: ws) = Memory.storeCells f r S (Memory.storeCell f r S m w) ws := rfl

/-- Cell writes leave every byte outside their own bytes alone. -/
theorem Memory.byte_storeCells_of_ne (f g : Nat) (r : Ram) (S : Nat) (m : Memory) (ws : List CellWrite) {a : Nat}
    (h : ∀ w ∈ ws, a ≠ r.addr (cellByte S w.x w.y)) :
    Memory.byte g (Memory.storeCells f r S m ws) a = Memory.byte g m a := by
  induction ws generalizing m with
  | nil => rfl
  | cons w ws ih =>
    rw [Memory.storeCells_cons, ih _ fun v hv => h v (by simp [hv]),
      Memory.byte_storeCell_of_ne f g r S m w (h w (by simp))]

/-- A cell that no write of the list names keeps its value. -/
theorem Memory.cell_storeCells_of_ne (f : Nat) (r : Ram) (S : Nat) (m : Memory) (ws : List CellWrite) {x y : Nat}
    (hx : x / 8 < S) (hw : ∀ w ∈ ws, w.x / 8 < S) (h : ∀ w ∈ ws, ¬(w.x = x ∧ w.y = y)) :
    Memory.cell f r S (Memory.storeCells f r S m ws) x y = Memory.cell f r S m x y := by
  induction ws generalizing m with
  | nil => rfl
  | cons w ws ih =>
    rw [Memory.storeCells_cons, ih _ (fun v hv => hw v (by simp [hv])) (fun v hv => h v (by simp [hv])),
      Memory.cell_storeCell f r S m w hx (hw w (by simp))]
    have : ¬(x = w.x ∧ y = w.y) := fun e => h w (by simp) ⟨e.1.symm, e.2.symm⟩
    rw [if_neg this]

/-- A cell that some write names, all of them with the same bit, gets that bit. -/
theorem Memory.cell_storeCells_of_mem (f : Nat) (r : Ram) (S : Nat) (m : Memory) (ws : List CellWrite) {x y : Nat} {b : Bool}
    (hx : x / 8 < S) (hw : ∀ w ∈ ws, w.x / 8 < S) (hm : ∃ w ∈ ws, w.x = x ∧ w.y = y)
    (hb : ∀ w ∈ ws, w.x = x → w.y = y → w.bit = b) :
    Memory.cell f r S (Memory.storeCells f r S m ws) x y = b := by
  induction ws generalizing m with
  | nil => simp at hm
  | cons w ws ih =>
    rw [Memory.storeCells_cons]
    by_cases h : ∃ v ∈ ws, v.x = x ∧ v.y = y
    · exact ih _ (fun v hv => hw v (by simp [hv])) h fun v hv => hb v (by simp [hv])
    · have h' : ∀ v ∈ ws, ¬(v.x = x ∧ v.y = y) := fun v hv e => h ⟨v, hv, e⟩
      rw [Memory.cell_storeCells_of_ne f r S _ ws hx (fun v hv => hw v (by simp [hv])) h',
        Memory.cell_storeCell f r S m w hx (hw w (by simp))]
      obtain ⟨v, hv, e⟩ := hm
      rcases List.mem_cons.mp hv with rfl | hv
      · rw [if_pos ⟨e.1.symm, e.2.symm⟩]
        exact hb v (by simp) e.1 e.2
      · exact absurd e (h' v hv)

theorem Memory.wf_storeCells {f : Nat} {r : Ram} {S : Nat} {m : Memory} {ws : List CellWrite} (h : Memory.wf m)
    (hw : ∀ w ∈ ws, cellByte S w.x w.y < r.size) : Memory.wf (Memory.storeCells f r S m ws) := by
  induction ws generalizing m with
  | nil => exact h
  | cons w ws ih =>
    rw [Memory.storeCells_cons]
    exact ih (Memory.wf_store h (isRamAddr_addr (hw w (by simp)))) fun v hv => hw v (by simp [hv])

/-- Cell writes inside one RAM leave the other RAMs alone. -/
theorem Memory.byte_storeCells_other (f g : Nat) {r q : Ram} (S : Nat) (m : Memory) (ws : List CellWrite) {i : Nat}
    (hw : ∀ w ∈ ws, cellByte S w.x w.y < r.size) (hi : i < q.size) (h : q ≠ r) :
    Memory.byte g (Memory.storeCells f r S m ws) (q.addr i) = Memory.byte g m (q.addr i) :=
  Memory.byte_storeCells_of_ne f g r S m ws fun w hm => Ram.addr_ne_of_ne hi (hw w hm) h

/-! ### Cells of the configured matrix -/

theorem div_eight_lt_stride {v x : Nat} (h : x < width v) : x / 8 < stride v := by
  unfold stride; omega

theorem div_eight_lt_of_lt {S x : Nat} (h : x < 8 * S) : x / 8 < S := by omega

theorem cellByte_lt {v x y : Nat} (hx : x < width v) (hy : y < width v) : cellByte (stride v) x y < matrixBytes v := by
  have h := div_eight_lt_stride hx
  have h2 : (y + 1) * stride v ≤ width v * stride v := Nat.mul_le_mul_right _ hy
  unfold cellByte matrixBytes
  rw [Nat.add_mul, Nat.one_mul] at h2
  omega

theorem matrixBytes_le {v : Nat} (h : v ≤ 40) : matrixBytes v ≤ 4071 := by
  unfold matrixBytes stride width
  interval_cases v <;> decide

theorem mem_allCells {W x y : Nat} : (x, y) ∈ allCells W ↔ x < W ∧ y < W := by
  simp [allCells, and_comm]

/-! ### Matrices read out -/

theorem Grid.cell_gridOf (W : Nat) (c : Nat → Nat → Bool) {x y : Nat} (hx : x < W) (hy : y < W) :
    Grid.cell (gridOf W c) x y = c x y := by
  simp [Grid.cell, gridOf, List.getD, hx, hy]

theorem gridOf_congr {W : Nat} {c d : Nat → Nat → Bool} (h : ∀ x < W, ∀ y < W, c x y = d x y) :
    gridOf W c = gridOf W d := by
  unfold gridOf
  refine List.map_congr_left fun y hy => List.map_congr_left fun x hx => h x ?_ y ?_
  · exact List.mem_range.mp hx
  · exact List.mem_range.mp hy

theorem State.grid_cell (s : State) (r : Ram) {x y : Nat} (hx : x < width s.ver) (hy : y < width s.ver) :
    (s.grid r).cell x y = s.cell r x y := Grid.cell_gridOf _ _ hx hy

end Sys2Proof.Machine
end

