-- ==== Sys2Proof/Laws/State.lean ====
section
/-! SUPPORT. One lemma per field for each named update of State, true by rfl. -/

namespace Sys2Proof.Machine

@[simp] theorem State.complete_ieDone (s : State) : s.complete.ieDone = s.ieDone := rfl
@[simp] theorem State.complete_ieErr (s : State) : s.complete.ieErr = s.ieErr := rfl
@[simp] theorem State.complete_seq (s : State) : s.complete.seq = .idle := rfl
@[simp] theorem State.complete_done (s : State) : s.complete.done = true := rfl
@[simp] theorem State.complete_err (s : State) : s.complete.err = s.err := rfl
@[simp] theorem State.complete_frameBuilt (s : State) : s.complete.frameBuilt = s.frameBuilt := rfl
@[simp] theorem State.complete_streamValid (s : State) : s.complete.streamValid = s.streamValid := rfl
@[simp] theorem State.complete_genValid (s : State) : s.complete.genValid = s.genValid := rfl
@[simp] theorem State.complete_placed (s : State) : s.complete.placed = s.placed := rfl
@[simp] theorem State.complete_selected (s : State) : s.complete.selected = s.selected := rfl
@[simp] theorem State.complete_symbolValid (s : State) : s.complete.symbolValid = s.symbolValid := rfl
@[simp] theorem State.complete_truncated (s : State) : s.complete.truncated = s.truncated := rfl
@[simp] theorem State.complete_cmd (s : State) : s.complete.cmd = s.cmd := rfl
@[simp] theorem State.complete_version (s : State) : s.complete.version = s.version := rfl
@[simp] theorem State.complete_eccLvl (s : State) : s.complete.eccLvl = s.eccLvl := rfl
@[simp] theorem State.complete_plen (s : State) : s.complete.plen = s.plen := rfl
@[simp] theorem State.complete_arg0 (s : State) : s.complete.arg0 = s.arg0 := rfl
@[simp] theorem State.complete_arg1 (s : State) : s.complete.arg1 = s.arg1 := rfl
@[simp] theorem State.complete_arg2 (s : State) : s.complete.arg2 = s.arg2 := rfl
@[simp] theorem State.complete_result (s : State) : s.complete.result = s.result := rfl
@[simp] theorem State.complete_errCode (s : State) : s.complete.errCode = s.errCode := rfl
@[simp] theorem State.complete_usedLen (s : State) : s.complete.usedLen = s.usedLen := rfl
@[simp] theorem State.complete_bestId (s : State) : s.complete.bestId = s.bestId := rfl
@[simp] theorem State.complete_bestValid (s : State) : s.complete.bestValid = s.bestValid := rfl
@[simp] theorem State.complete_pen1 (s : State) : s.complete.pen1 = s.pen1 := rfl
@[simp] theorem State.complete_pen2 (s : State) : s.complete.pen2 = s.pen2 := rfl
@[simp] theorem State.complete_pen3 (s : State) : s.complete.pen3 = s.pen3 := rfl
@[simp] theorem State.complete_pen4 (s : State) : s.complete.pen4 = s.pen4 := rfl
@[simp] theorem State.complete_dark (s : State) : s.complete.dark = s.dark := rfl
@[simp] theorem State.complete_scores (s : State) : s.complete.scores = s.scores := rfl
@[simp] theorem State.complete_arenaLimit (s : State) : s.complete.arenaLimit = s.arenaLimit := rfl
@[simp] theorem State.complete_arenaUsed (s : State) : s.complete.arenaUsed = s.arenaUsed := rfl
@[simp] theorem State.complete_genLen (s : State) : s.complete.genLen = s.genLen := rfl
@[simp] theorem State.complete_mem (s : State) : s.complete.mem = s.mem := rfl
@[simp] theorem State.complete_ramDraw (s : State) : s.complete.ramDraw = s.ramDraw := rfl
@[simp] theorem State.complete_draws (s : State) : s.complete.draws = s.draws := rfl
@[simp] theorem State.complete_pending (s : State) : s.complete.pending = s.pending := rfl
@[simp] theorem State.complete_latencies (s : State) : s.complete.latencies = s.latencies := rfl
@[simp] theorem State.complete_readData (s : State) : s.complete.readData = s.readData := rfl

@[simp] theorem State.raiseError_ieDone (s : State) (e : ErrCode) : (s.raiseError e).ieDone = s.ieDone := rfl
@[simp] theorem State.raiseError_ieErr (s : State) (e : ErrCode) : (s.raiseError e).ieErr = s.ieErr := rfl
@[simp] theorem State.raiseError_seq (s : State) (e : ErrCode) : (s.raiseError e).seq = .idle := rfl
@[simp] theorem State.raiseError_done (s : State) (e : ErrCode) : (s.raiseError e).done = true := rfl
@[simp] theorem State.raiseError_err (s : State) (e : ErrCode) : (s.raiseError e).err = true := rfl
@[simp] theorem State.raiseError_frameBuilt (s : State) (e : ErrCode) : (s.raiseError e).frameBuilt = s.frameBuilt := rfl
@[simp] theorem State.raiseError_streamValid (s : State) (e : ErrCode) : (s.raiseError e).streamValid = s.streamValid := rfl
@[simp] theorem State.raiseError_genValid (s : State) (e : ErrCode) : (s.raiseError e).genValid = s.genValid := rfl
@[simp] theorem State.raiseError_placed (s : State) (e : ErrCode) : (s.raiseError e).placed = s.placed := rfl
@[simp] theorem State.raiseError_selected (s : State) (e : ErrCode) : (s.raiseError e).selected = s.selected := rfl
@[simp] theorem State.raiseError_symbolValid (s : State) (e : ErrCode) : (s.raiseError e).symbolValid = s.symbolValid := rfl
@[simp] theorem State.raiseError_truncated (s : State) (e : ErrCode) : (s.raiseError e).truncated = s.truncated := rfl
@[simp] theorem State.raiseError_cmd (s : State) (e : ErrCode) : (s.raiseError e).cmd = s.cmd := rfl
@[simp] theorem State.raiseError_version (s : State) (e : ErrCode) : (s.raiseError e).version = s.version := rfl
@[simp] theorem State.raiseError_eccLvl (s : State) (e : ErrCode) : (s.raiseError e).eccLvl = s.eccLvl := rfl
@[simp] theorem State.raiseError_plen (s : State) (e : ErrCode) : (s.raiseError e).plen = s.plen := rfl
@[simp] theorem State.raiseError_arg0 (s : State) (e : ErrCode) : (s.raiseError e).arg0 = s.arg0 := rfl
@[simp] theorem State.raiseError_arg1 (s : State) (e : ErrCode) : (s.raiseError e).arg1 = s.arg1 := rfl
@[simp] theorem State.raiseError_arg2 (s : State) (e : ErrCode) : (s.raiseError e).arg2 = s.arg2 := rfl
@[simp] theorem State.raiseError_result (s : State) (e : ErrCode) : (s.raiseError e).result = s.result := rfl
@[simp] theorem State.raiseError_errCode (s : State) (e : ErrCode) : (s.raiseError e).errCode = (if s.err then s.errCode else e) := rfl
@[simp] theorem State.raiseError_usedLen (s : State) (e : ErrCode) : (s.raiseError e).usedLen = s.usedLen := rfl
@[simp] theorem State.raiseError_bestId (s : State) (e : ErrCode) : (s.raiseError e).bestId = s.bestId := rfl
@[simp] theorem State.raiseError_bestValid (s : State) (e : ErrCode) : (s.raiseError e).bestValid = s.bestValid := rfl
@[simp] theorem State.raiseError_pen1 (s : State) (e : ErrCode) : (s.raiseError e).pen1 = s.pen1 := rfl
@[simp] theorem State.raiseError_pen2 (s : State) (e : ErrCode) : (s.raiseError e).pen2 = s.pen2 := rfl
@[simp] theorem State.raiseError_pen3 (s : State) (e : ErrCode) : (s.raiseError e).pen3 = s.pen3 := rfl
@[simp] theorem State.raiseError_pen4 (s : State) (e : ErrCode) : (s.raiseError e).pen4 = s.pen4 := rfl
@[simp] theorem State.raiseError_dark (s : State) (e : ErrCode) : (s.raiseError e).dark = s.dark := rfl
@[simp] theorem State.raiseError_scores (s : State) (e : ErrCode) : (s.raiseError e).scores = s.scores := rfl
@[simp] theorem State.raiseError_arenaLimit (s : State) (e : ErrCode) : (s.raiseError e).arenaLimit = s.arenaLimit := rfl
@[simp] theorem State.raiseError_arenaUsed (s : State) (e : ErrCode) : (s.raiseError e).arenaUsed = s.arenaUsed := rfl
@[simp] theorem State.raiseError_genLen (s : State) (e : ErrCode) : (s.raiseError e).genLen = s.genLen := rfl
@[simp] theorem State.raiseError_mem (s : State) (e : ErrCode) : (s.raiseError e).mem = s.mem := rfl
@[simp] theorem State.raiseError_ramDraw (s : State) (e : ErrCode) : (s.raiseError e).ramDraw = s.ramDraw := rfl
@[simp] theorem State.raiseError_draws (s : State) (e : ErrCode) : (s.raiseError e).draws = s.draws := rfl
@[simp] theorem State.raiseError_pending (s : State) (e : ErrCode) : (s.raiseError e).pending = s.pending := rfl
@[simp] theorem State.raiseError_latencies (s : State) (e : ErrCode) : (s.raiseError e).latencies = s.latencies := rfl
@[simp] theorem State.raiseError_readData (s : State) (e : ErrCode) : (s.raiseError e).readData = s.readData := rfl

@[simp] theorem State.noteError_ieDone (s : State) (e : ErrCode) : (s.noteError e).ieDone = s.ieDone := rfl
@[simp] theorem State.noteError_ieErr (s : State) (e : ErrCode) : (s.noteError e).ieErr = s.ieErr := rfl
@[simp] theorem State.noteError_seq (s : State) (e : ErrCode) : (s.noteError e).seq = s.seq := rfl
@[simp] theorem State.noteError_done (s : State) (e : ErrCode) : (s.noteError e).done = s.done := rfl
@[simp] theorem State.noteError_err (s : State) (e : ErrCode) : (s.noteError e).err = true := rfl
@[simp] theorem State.noteError_frameBuilt (s : State) (e : ErrCode) : (s.noteError e).frameBuilt = s.frameBuilt := rfl
@[simp] theorem State.noteError_streamValid (s : State) (e : ErrCode) : (s.noteError e).streamValid = s.streamValid := rfl
@[simp] theorem State.noteError_genValid (s : State) (e : ErrCode) : (s.noteError e).genValid = s.genValid := rfl
@[simp] theorem State.noteError_placed (s : State) (e : ErrCode) : (s.noteError e).placed = s.placed := rfl
@[simp] theorem State.noteError_selected (s : State) (e : ErrCode) : (s.noteError e).selected = s.selected := rfl
@[simp] theorem State.noteError_symbolValid (s : State) (e : ErrCode) : (s.noteError e).symbolValid = s.symbolValid := rfl
@[simp] theorem State.noteError_truncated (s : State) (e : ErrCode) : (s.noteError e).truncated = s.truncated := rfl
@[simp] theorem State.noteError_cmd (s : State) (e : ErrCode) : (s.noteError e).cmd = s.cmd := rfl
@[simp] theorem State.noteError_version (s : State) (e : ErrCode) : (s.noteError e).version = s.version := rfl
@[simp] theorem State.noteError_eccLvl (s : State) (e : ErrCode) : (s.noteError e).eccLvl = s.eccLvl := rfl
@[simp] theorem State.noteError_plen (s : State) (e : ErrCode) : (s.noteError e).plen = s.plen := rfl
@[simp] theorem State.noteError_arg0 (s : State) (e : ErrCode) : (s.noteError e).arg0 = s.arg0 := rfl
@[simp] theorem State.noteError_arg1 (s : State) (e : ErrCode) : (s.noteError e).arg1 = s.arg1 := rfl
@[simp] theorem State.noteError_arg2 (s : State) (e : ErrCode) : (s.noteError e).arg2 = s.arg2 := rfl
@[simp] theorem State.noteError_result (s : State) (e : ErrCode) : (s.noteError e).result = s.result := rfl
@[simp] theorem State.noteError_errCode (s : State) (e : ErrCode) : (s.noteError e).errCode = (if s.err then s.errCode else e) := rfl
@[simp] theorem State.noteError_usedLen (s : State) (e : ErrCode) : (s.noteError e).usedLen = s.usedLen := rfl
@[simp] theorem State.noteError_bestId (s : State) (e : ErrCode) : (s.noteError e).bestId = s.bestId := rfl
@[simp] theorem State.noteError_bestValid (s : State) (e : ErrCode) : (s.noteError e).bestValid = s.bestValid := rfl
@[simp] theorem State.noteError_pen1 (s : State) (e : ErrCode) : (s.noteError e).pen1 = s.pen1 := rfl
@[simp] theorem State.noteError_pen2 (s : State) (e : ErrCode) : (s.noteError e).pen2 = s.pen2 := rfl
@[simp] theorem State.noteError_pen3 (s : State) (e : ErrCode) : (s.noteError e).pen3 = s.pen3 := rfl
@[simp] theorem State.noteError_pen4 (s : State) (e : ErrCode) : (s.noteError e).pen4 = s.pen4 := rfl
@[simp] theorem State.noteError_dark (s : State) (e : ErrCode) : (s.noteError e).dark = s.dark := rfl
@[simp] theorem State.noteError_scores (s : State) (e : ErrCode) : (s.noteError e).scores = s.scores := rfl
@[simp] theorem State.noteError_arenaLimit (s : State) (e : ErrCode) : (s.noteError e).arenaLimit = s.arenaLimit := rfl
@[simp] theorem State.noteError_arenaUsed (s : State) (e : ErrCode) : (s.noteError e).arenaUsed = s.arenaUsed := rfl
@[simp] theorem State.noteError_genLen (s : State) (e : ErrCode) : (s.noteError e).genLen = s.genLen := rfl
@[simp] theorem State.noteError_mem (s : State) (e : ErrCode) : (s.noteError e).mem = s.mem := rfl
@[simp] theorem State.noteError_ramDraw (s : State) (e : ErrCode) : (s.noteError e).ramDraw = s.ramDraw := rfl
@[simp] theorem State.noteError_draws (s : State) (e : ErrCode) : (s.noteError e).draws = s.draws := rfl
@[simp] theorem State.noteError_pending (s : State) (e : ErrCode) : (s.noteError e).pending = s.pending := rfl
@[simp] theorem State.noteError_latencies (s : State) (e : ErrCode) : (s.noteError e).latencies = s.latencies := rfl
@[simp] theorem State.noteError_readData (s : State) (e : ErrCode) : (s.noteError e).readData = s.readData := rfl

@[simp] theorem State.clearError_ieDone (s : State) : s.clearError.ieDone = s.ieDone := rfl
@[simp] theorem State.clearError_ieErr (s : State) : s.clearError.ieErr = s.ieErr := rfl
@[simp] theorem State.clearError_seq (s : State) : s.clearError.seq = s.seq := rfl
@[simp] theorem State.clearError_done (s : State) : s.clearError.done = s.done := rfl
@[simp] theorem State.clearError_err (s : State) : s.clearError.err = false := rfl
@[simp] theorem State.clearError_frameBuilt (s : State) : s.clearError.frameBuilt = s.frameBuilt := rfl
@[simp] theorem State.clearError_streamValid (s : State) : s.clearError.streamValid = s.streamValid := rfl
@[simp] theorem State.clearError_genValid (s : State) : s.clearError.genValid = s.genValid := rfl
@[simp] theorem State.clearError_placed (s : State) : s.clearError.placed = s.placed := rfl
@[simp] theorem State.clearError_selected (s : State) : s.clearError.selected = s.selected := rfl
@[simp] theorem State.clearError_symbolValid (s : State) : s.clearError.symbolValid = s.symbolValid := rfl
@[simp] theorem State.clearError_truncated (s : State) : s.clearError.truncated = s.truncated := rfl
@[simp] theorem State.clearError_cmd (s : State) : s.clearError.cmd = s.cmd := rfl
@[simp] theorem State.clearError_version (s : State) : s.clearError.version = s.version := rfl
@[simp] theorem State.clearError_eccLvl (s : State) : s.clearError.eccLvl = s.eccLvl := rfl
@[simp] theorem State.clearError_plen (s : State) : s.clearError.plen = s.plen := rfl
@[simp] theorem State.clearError_arg0 (s : State) : s.clearError.arg0 = s.arg0 := rfl
@[simp] theorem State.clearError_arg1 (s : State) : s.clearError.arg1 = s.arg1 := rfl
@[simp] theorem State.clearError_arg2 (s : State) : s.clearError.arg2 = s.arg2 := rfl
@[simp] theorem State.clearError_result (s : State) : s.clearError.result = s.result := rfl
@[simp] theorem State.clearError_errCode (s : State) : s.clearError.errCode = .none := rfl
@[simp] theorem State.clearError_usedLen (s : State) : s.clearError.usedLen = s.usedLen := rfl
@[simp] theorem State.clearError_bestId (s : State) : s.clearError.bestId = s.bestId := rfl
@[simp] theorem State.clearError_bestValid (s : State) : s.clearError.bestValid = s.bestValid := rfl
@[simp] theorem State.clearError_pen1 (s : State) : s.clearError.pen1 = s.pen1 := rfl
@[simp] theorem State.clearError_pen2 (s : State) : s.clearError.pen2 = s.pen2 := rfl
@[simp] theorem State.clearError_pen3 (s : State) : s.clearError.pen3 = s.pen3 := rfl
@[simp] theorem State.clearError_pen4 (s : State) : s.clearError.pen4 = s.pen4 := rfl
@[simp] theorem State.clearError_dark (s : State) : s.clearError.dark = s.dark := rfl
@[simp] theorem State.clearError_scores (s : State) : s.clearError.scores = s.scores := rfl
@[simp] theorem State.clearError_arenaLimit (s : State) : s.clearError.arenaLimit = s.arenaLimit := rfl
@[simp] theorem State.clearError_arenaUsed (s : State) : s.clearError.arenaUsed = s.arenaUsed := rfl
@[simp] theorem State.clearError_genLen (s : State) : s.clearError.genLen = s.genLen := rfl
@[simp] theorem State.clearError_mem (s : State) : s.clearError.mem = s.mem := rfl
@[simp] theorem State.clearError_ramDraw (s : State) : s.clearError.ramDraw = s.ramDraw := rfl
@[simp] theorem State.clearError_draws (s : State) : s.clearError.draws = s.draws := rfl
@[simp] theorem State.clearError_pending (s : State) : s.clearError.pending = s.pending := rfl
@[simp] theorem State.clearError_latencies (s : State) : s.clearError.latencies = s.latencies := rfl
@[simp] theorem State.clearError_readData (s : State) : s.clearError.readData = s.readData := rfl

@[simp] theorem State.clearDone_ieDone (s : State) : s.clearDone.ieDone = s.ieDone := rfl
@[simp] theorem State.clearDone_ieErr (s : State) : s.clearDone.ieErr = s.ieErr := rfl
@[simp] theorem State.clearDone_seq (s : State) : s.clearDone.seq = s.seq := rfl
@[simp] theorem State.clearDone_done (s : State) : s.clearDone.done = false := rfl
@[simp] theorem State.clearDone_err (s : State) : s.clearDone.err = s.err := rfl
@[simp] theorem State.clearDone_frameBuilt (s : State) : s.clearDone.frameBuilt = s.frameBuilt := rfl
@[simp] theorem State.clearDone_streamValid (s : State) : s.clearDone.streamValid = s.streamValid := rfl
@[simp] theorem State.clearDone_genValid (s : State) : s.clearDone.genValid = s.genValid := rfl
@[simp] theorem State.clearDone_placed (s : State) : s.clearDone.placed = s.placed := rfl
@[simp] theorem State.clearDone_selected (s : State) : s.clearDone.selected = s.selected := rfl
@[simp] theorem State.clearDone_symbolValid (s : State) : s.clearDone.symbolValid = s.symbolValid := rfl
@[simp] theorem State.clearDone_truncated (s : State) : s.clearDone.truncated = s.truncated := rfl
@[simp] theorem State.clearDone_cmd (s : State) : s.clearDone.cmd = s.cmd := rfl
@[simp] theorem State.clearDone_version (s : State) : s.clearDone.version = s.version := rfl
@[simp] theorem State.clearDone_eccLvl (s : State) : s.clearDone.eccLvl = s.eccLvl := rfl
@[simp] theorem State.clearDone_plen (s : State) : s.clearDone.plen = s.plen := rfl
@[simp] theorem State.clearDone_arg0 (s : State) : s.clearDone.arg0 = s.arg0 := rfl
@[simp] theorem State.clearDone_arg1 (s : State) : s.clearDone.arg1 = s.arg1 := rfl
@[simp] theorem State.clearDone_arg2 (s : State) : s.clearDone.arg2 = s.arg2 := rfl
@[simp] theorem State.clearDone_result (s : State) : s.clearDone.result = s.result := rfl
@[simp] theorem State.clearDone_errCode (s : State) : s.clearDone.errCode = s.errCode := rfl
@[simp] theorem State.clearDone_usedLen (s : State) : s.clearDone.usedLen = s.usedLen := rfl
@[simp] theorem State.clearDone_bestId (s : State) : s.clearDone.bestId = s.bestId := rfl
@[simp] theorem State.clearDone_bestValid (s : State) : s.clearDone.bestValid = s.bestValid := rfl
@[simp] theorem State.clearDone_pen1 (s : State) : s.clearDone.pen1 = s.pen1 := rfl
@[simp] theorem State.clearDone_pen2 (s : State) : s.clearDone.pen2 = s.pen2 := rfl
@[simp] theorem State.clearDone_pen3 (s : State) : s.clearDone.pen3 = s.pen3 := rfl
@[simp] theorem State.clearDone_pen4 (s : State) : s.clearDone.pen4 = s.pen4 := rfl
@[simp] theorem State.clearDone_dark (s : State) : s.clearDone.dark = s.dark := rfl
@[simp] theorem State.clearDone_scores (s : State) : s.clearDone.scores = s.scores := rfl
@[simp] theorem State.clearDone_arenaLimit (s : State) : s.clearDone.arenaLimit = s.arenaLimit := rfl
@[simp] theorem State.clearDone_arenaUsed (s : State) : s.clearDone.arenaUsed = s.arenaUsed := rfl
@[simp] theorem State.clearDone_genLen (s : State) : s.clearDone.genLen = s.genLen := rfl
@[simp] theorem State.clearDone_mem (s : State) : s.clearDone.mem = s.mem := rfl
@[simp] theorem State.clearDone_ramDraw (s : State) : s.clearDone.ramDraw = s.ramDraw := rfl
@[simp] theorem State.clearDone_draws (s : State) : s.clearDone.draws = s.draws := rfl
@[simp] theorem State.clearDone_pending (s : State) : s.clearDone.pending = s.pending := rfl
@[simp] theorem State.clearDone_latencies (s : State) : s.clearDone.latencies = s.latencies := rfl
@[simp] theorem State.clearDone_readData (s : State) : s.clearDone.readData = s.readData := rfl

@[simp] theorem State.dropSelection_ieDone (s : State) : s.dropSelection.ieDone = s.ieDone := rfl
@[simp] theorem State.dropSelection_ieErr (s : State) : s.dropSelection.ieErr = s.ieErr := rfl
@[simp] theorem State.dropSelection_seq (s : State) : s.dropSelection.seq = s.seq := rfl
@[simp] theorem State.dropSelection_done (s : State) : s.dropSelection.done = s.done := rfl
@[simp] theorem State.dropSelection_err (s : State) : s.dropSelection.err = s.err := rfl
@[simp] theorem State.dropSelection_frameBuilt (s : State) : s.dropSelection.frameBuilt = s.frameBuilt := rfl
@[simp] theorem State.dropSelection_streamValid (s : State) : s.dropSelection.streamValid = s.streamValid := rfl
@[simp] theorem State.dropSelection_genValid (s : State) : s.dropSelection.genValid = s.genValid := rfl
@[simp] theorem State.dropSelection_placed (s : State) : s.dropSelection.placed = s.placed := rfl
@[simp] theorem State.dropSelection_selected (s : State) : s.dropSelection.selected = false := rfl
@[simp] theorem State.dropSelection_symbolValid (s : State) : s.dropSelection.symbolValid = false := rfl
@[simp] theorem State.dropSelection_truncated (s : State) : s.dropSelection.truncated = s.truncated := rfl
@[simp] theorem State.dropSelection_cmd (s : State) : s.dropSelection.cmd = s.cmd := rfl
@[simp] theorem State.dropSelection_version (s : State) : s.dropSelection.version = s.version := rfl
@[simp] theorem State.dropSelection_eccLvl (s : State) : s.dropSelection.eccLvl = s.eccLvl := rfl
@[simp] theorem State.dropSelection_plen (s : State) : s.dropSelection.plen = s.plen := rfl
@[simp] theorem State.dropSelection_arg0 (s : State) : s.dropSelection.arg0 = s.arg0 := rfl
@[simp] theorem State.dropSelection_arg1 (s : State) : s.dropSelection.arg1 = s.arg1 := rfl
@[simp] theorem State.dropSelection_arg2 (s : State) : s.dropSelection.arg2 = s.arg2 := rfl
@[simp] theorem State.dropSelection_result (s : State) : s.dropSelection.result = s.result := rfl
@[simp] theorem State.dropSelection_errCode (s : State) : s.dropSelection.errCode = s.errCode := rfl
@[simp] theorem State.dropSelection_usedLen (s : State) : s.dropSelection.usedLen = s.usedLen := rfl
@[simp] theorem State.dropSelection_bestId (s : State) : s.dropSelection.bestId = s.bestId := rfl
@[simp] theorem State.dropSelection_bestValid (s : State) : s.dropSelection.bestValid = s.bestValid := rfl
@[simp] theorem State.dropSelection_pen1 (s : State) : s.dropSelection.pen1 = s.pen1 := rfl
@[simp] theorem State.dropSelection_pen2 (s : State) : s.dropSelection.pen2 = s.pen2 := rfl
@[simp] theorem State.dropSelection_pen3 (s : State) : s.dropSelection.pen3 = s.pen3 := rfl
@[simp] theorem State.dropSelection_pen4 (s : State) : s.dropSelection.pen4 = s.pen4 := rfl
@[simp] theorem State.dropSelection_dark (s : State) : s.dropSelection.dark = s.dark := rfl
@[simp] theorem State.dropSelection_scores (s : State) : s.dropSelection.scores = s.scores := rfl
@[simp] theorem State.dropSelection_arenaLimit (s : State) : s.dropSelection.arenaLimit = s.arenaLimit := rfl
@[simp] theorem State.dropSelection_arenaUsed (s : State) : s.dropSelection.arenaUsed = s.arenaUsed := rfl
@[simp] theorem State.dropSelection_genLen (s : State) : s.dropSelection.genLen = s.genLen := rfl
@[simp] theorem State.dropSelection_mem (s : State) : s.dropSelection.mem = s.mem := rfl
@[simp] theorem State.dropSelection_ramDraw (s : State) : s.dropSelection.ramDraw = s.ramDraw := rfl
@[simp] theorem State.dropSelection_draws (s : State) : s.dropSelection.draws = s.draws := rfl
@[simp] theorem State.dropSelection_pending (s : State) : s.dropSelection.pending = s.pending := rfl
@[simp] theorem State.dropSelection_latencies (s : State) : s.dropSelection.latencies = s.latencies := rfl
@[simp] theorem State.dropSelection_readData (s : State) : s.dropSelection.readData = s.readData := rfl

@[simp] theorem State.accept_ieDone (s : State) (w : Word) : (s.accept w).ieDone = s.ieDone := rfl
@[simp] theorem State.accept_ieErr (s : State) (w : Word) : (s.accept w).ieErr = s.ieErr := rfl
@[simp] theorem State.accept_seq (s : State) (w : Word) : (s.accept w).seq = .executing (s.nextLatency w) := rfl
@[simp] theorem State.accept_done (s : State) (w : Word) : (s.accept w).done = false := rfl
@[simp] theorem State.accept_err (s : State) (w : Word) : (s.accept w).err = s.err := rfl
@[simp] theorem State.accept_frameBuilt (s : State) (w : Word) : (s.accept w).frameBuilt = s.frameBuilt := rfl
@[simp] theorem State.accept_streamValid (s : State) (w : Word) : (s.accept w).streamValid = s.streamValid := rfl
@[simp] theorem State.accept_genValid (s : State) (w : Word) : (s.accept w).genValid = s.genValid := rfl
@[simp] theorem State.accept_placed (s : State) (w : Word) : (s.accept w).placed = s.placed := rfl
@[simp] theorem State.accept_selected (s : State) (w : Word) : (s.accept w).selected = s.selected := rfl
@[simp] theorem State.accept_symbolValid (s : State) (w : Word) : (s.accept w).symbolValid = s.symbolValid := rfl
@[simp] theorem State.accept_truncated (s : State) (w : Word) : (s.accept w).truncated = s.truncated := rfl
@[simp] theorem State.accept_cmd (s : State) (w : Word) : (s.accept w).cmd = w := rfl
@[simp] theorem State.accept_version (s : State) (w : Word) : (s.accept w).version = s.version := rfl
@[simp] theorem State.accept_eccLvl (s : State) (w : Word) : (s.accept w).eccLvl = s.eccLvl := rfl
@[simp] theorem State.accept_plen (s : State) (w : Word) : (s.accept w).plen = s.plen := rfl
@[simp] theorem State.accept_arg0 (s : State) (w : Word) : (s.accept w).arg0 = s.arg0 := rfl
@[simp] theorem State.accept_arg1 (s : State) (w : Word) : (s.accept w).arg1 = s.arg1 := rfl
@[simp] theorem State.accept_arg2 (s : State) (w : Word) : (s.accept w).arg2 = s.arg2 := rfl
@[simp] theorem State.accept_result (s : State) (w : Word) : (s.accept w).result = s.result := rfl
@[simp] theorem State.accept_errCode (s : State) (w : Word) : (s.accept w).errCode = s.errCode := rfl
@[simp] theorem State.accept_usedLen (s : State) (w : Word) : (s.accept w).usedLen = s.usedLen := rfl
@[simp] theorem State.accept_bestId (s : State) (w : Word) : (s.accept w).bestId = s.bestId := rfl
@[simp] theorem State.accept_bestValid (s : State) (w : Word) : (s.accept w).bestValid = s.bestValid := rfl
@[simp] theorem State.accept_pen1 (s : State) (w : Word) : (s.accept w).pen1 = s.pen1 := rfl
@[simp] theorem State.accept_pen2 (s : State) (w : Word) : (s.accept w).pen2 = s.pen2 := rfl
@[simp] theorem State.accept_pen3 (s : State) (w : Word) : (s.accept w).pen3 = s.pen3 := rfl
@[simp] theorem State.accept_pen4 (s : State) (w : Word) : (s.accept w).pen4 = s.pen4 := rfl
@[simp] theorem State.accept_dark (s : State) (w : Word) : (s.accept w).dark = s.dark := rfl
@[simp] theorem State.accept_scores (s : State) (w : Word) : (s.accept w).scores = s.scores := rfl
@[simp] theorem State.accept_arenaLimit (s : State) (w : Word) : (s.accept w).arenaLimit = s.arenaLimit := rfl
@[simp] theorem State.accept_arenaUsed (s : State) (w : Word) : (s.accept w).arenaUsed = s.arenaUsed := rfl
@[simp] theorem State.accept_genLen (s : State) (w : Word) : (s.accept w).genLen = s.genLen := rfl
@[simp] theorem State.accept_mem (s : State) (w : Word) : (s.accept w).mem = s.mem := rfl
@[simp] theorem State.accept_ramDraw (s : State) (w : Word) : (s.accept w).ramDraw = s.ramDraw := rfl
@[simp] theorem State.accept_draws (s : State) (w : Word) : (s.accept w).draws = s.draws := rfl
@[simp] theorem State.accept_pending (s : State) (w : Word) : (s.accept w).pending = s.pending := rfl
@[simp] theorem State.accept_latencies (s : State) (w : Word) : (s.accept w).latencies = s.latenciesAfter w := rfl
@[simp] theorem State.accept_readData (s : State) (w : Word) : (s.accept w).readData = s.readData := rfl

end Sys2Proof.Machine
end

