-- ==== Sys2Proof/Laws/Commands.lean ====
section
/-! SUPPORT. What each shared operation of the commands can do, said once: how a command ends, the lengths and ranges of
what it writes, and the bytes its writes leave alone. -/

namespace Sys2Proof.Machine

/-! ### How a command ends -/

/-- Everything a guarded command can answer (R320): its effect, completed, or one error, nothing written. -/
theorem guarded_outcome_cases {c : Option ErrCode} {s t u : State} (h : (guarded c s t).outcome = .next u) :
    (c = none ∧ u = t.complete) ∨ (∃ e, c = some e ∧ u = s.raiseError e) := by
  cases c with
  | none => exact .inl ⟨rfl, by simpa [guarded, CmdResult.outcome] using h.symm⟩
  | some e => exact .inr ⟨e, rfl, by simpa [guarded, CmdResult.outcome] using h.symm⟩

@[simp] theorem guarded_none (s t : State) : guarded none s t = .done t := rfl

@[simp] theorem guarded_some (e : ErrCode) (s t : State) : guarded (some e) s t = .failed e s := rfl

@[simp] theorem outcome_done (t : State) : (CmdResult.done t).outcome = .next t.complete := rfl

@[simp] theorem outcome_failed (e : ErrCode) (t : State) : (CmdResult.failed e t).outcome = .next (t.raiseError e) := rfl

@[simp] theorem andThen_done (t : State) (f : State → CmdResult) : (CmdResult.done t).andThen f = f t := rfl

@[simp] theorem andThen_failed (e : ErrCode) (t : State) (f : State → CmdResult) :
    (CmdResult.failed e t).andThen f = .failed e t := rfl

/-- Every command's completion is a next state. -/
theorem CmdResult.outcome_safe (r : CmdResult) : ∃ t, r.outcome = .next t := by
  cases r with
  | done t => exact ⟨_, rfl⟩
  | failed e t => exact ⟨_, rfl⟩

/-! ### The table parameters as an argument (R7) -/

/-- A command with the default tables is the dispatched meaning. -/
@[simp] theorem execWith_stdParams (i : Instr) (s : State) : execWith stdParams i s = exec i s := by cases i <;> rfl

/-- The step with the default tables is the machine's step. -/
@[simp] theorem stepWith_stdParams (s : State) : stepWith stdParams s = step s := by
  have h : execWith stdParams = exec := funext fun i => funext fun s => execWith_stdParams i s
  unfold stepWith step
  rw [h]

/-- A command reads no table that its rule does not name: these run alike with every P. -/
theorem execWith_of_no_table (P : Params) (s : State) {i : Instr}
    (h : i ∈ [Instr.nop, .gfLog, .gfExp, .rsGen, .rsEnc, .maskScore, .sessionBegin]) : execWith P i s = exec i s := by
  simp only [List.mem_cons, List.not_mem_nil, or_false] at h
  rcases h with rfl | rfl | rfl | rfl | rfl | rfl | rfl <;> rfl

/-- With every P a command completes. -/
theorem execWith_safe (P : Params) (i : Instr) (s : State) : ∃ t, execWith P i s = .next t :=
  CmdResult.outcome_safe _

/-- With every P a step answers a next state (R371). -/
theorem stepWith_safe (P : Params) (s : State) : ∃ t, stepWith P s = .next t := by
  unfold stepWith sequencerStep
  split
  · split
    · exact execWith_safe P _ s
    · exact ⟨_, rfl⟩
  · exact ⟨_, rfl⟩
  · exact ⟨_, rfl⟩

/-! ### When the checks pass -/

theorem State.cfgOk_iff {s : State} : s.cfgOk = true ↔ 1 ≤ s.ver ∧ s.ver ≤ 40 := by simp [State.cfgOk]

theorem State.allocFits_iff {s : State} {n : Nat} :
    s.allocFits n = true ↔ s.arenaUsed.toNat + n ≤ s.arenaLimit.toNat := by simp [State.allocFits]

theorem rsGenCheck_eq_none {s : State} : rsGenCheck s = none ↔ 1 ≤ s.genDegree ∧ s.genDegree ≤ 68 := by
  unfold rsGenCheck; split <;> simp_all

theorem rsEncCheck_eq_none {s : State} :
    rsEncCheck s = none ↔
      s.genValid = true ∧ s.encSource + s.encLength ≤ 4096 ∧ s.encDest + s.encDegree ≤ 4096 := by
  unfold rsEncCheck
  split
  · simp_all
  · split
    · rename_i h
      simp only [reduceCtorEq, false_iff]
      omega
    · rename_i h1 h2
      have : s.genValid = true := by simpa using h1
      simp only [this, true_and, true_iff]
      omega

theorem streamBuildCheck_eq_none {P : Params} {s : State} :
    streamBuildCheck P s = none ↔ s.cfgOk = true ∧ s.allocFits (s.entry P).total = true := by
  unfold streamBuildCheck; split
  · simp_all
  · split <;> simp_all

theorem frameBuildCheck_eq_none {s : State} :
    frameBuildCheck s = none ↔ s.cfgOk = true ∧ s.frameBuilt = false ∧ s.allocFits s.frameCharge = true := by
  unfold frameBuildCheck; split
  · simp_all
  · split
    · simp_all
    · split <;> simp_all

theorem placeCheck_eq_none {s : State} :
    placeCheck s = none ↔ s.cfgOk = true ∧ s.frameBuilt = true ∧ s.streamValid = true := by
  unfold placeCheck; split
  · simp_all
  · split
    · rename_i h; simp only [reduceCtorEq, false_iff]; rintro ⟨-, h1, h2⟩; simp_all
    · simp_all

theorem frameCheck_eq_none {s : State} : frameCheck s = none ↔ s.cfgOk = true ∧ s.frameBuilt = true := by
  unfold frameCheck; split
  · simp_all
  · split <;> simp_all

theorem encodeCheck_eq_none {s : State} : encodeCheck s = none ↔ s.cfgOk = true ∧ s.frameBuilt = false := by
  unfold encodeCheck; split
  · simp_all
  · split <;> simp_all

/-! ### Lengths -/

theorem length_timesRoot (c : List Byte) (r : Byte) : (timesRoot c r).length = c.length + 1 := by
  simp [timesRoot]

theorem length_genPoly (e : Nat) : (genPoly e).length = e + 1 := by
  induction e with
  | zero => rfl
  | succ e ih => rw [genPoly, length_timesRoot, ih]

@[simp] theorem length_genImage (e : Nat) : (genImage e).length = e + 1 := by
  simp [genImage, length_genPoly]

theorem length_lfsrStep {gs reg : List Byte} (d : Byte) (h : gs.length = reg.length) :
    (lfsrStep gs reg d).length = reg.length := by
  unfold lfsrStep
  simp only
  split <;> simp [h]

theorem length_rsEncode {gens : List Byte} {e : Nat} (data : List Byte) (h : e ≤ gens.length) :
    (rsEncode gens e data).length = e := by
  have key : ∀ (ds reg : List Byte), reg.length = e →
      (ds.foldl (lfsrStep (gens.take e).reverse) reg).length = e := by
    intro ds
    induction ds with
    | nil => intro reg hr; exact hr
    | cons d ds ih =>
      intro reg hr
      rw [List.foldl_cons]
      exact ih _ (by rw [length_lfsrStep d (by simp [hr, h]), hr])
  exact key data _ (by simp)

@[simp] theorem length_ramBytes (s : State) (r : Ram) (start n : Nat) : (s.ramBytes r start n).length = n := by
  simp [State.ramBytes]

theorem length_encoded (s : State) : s.encoded.length = s.encDegree :=
  length_rsEncode _ (by simp)

theorem length_dataBlocks (e : BlockEntry) (data : List Byte) : (dataBlocks e data).length = e.blocks := by
  simp [dataBlocks]

theorem length_interleave (e : BlockEntry) {blocks eccs : List (List Byte)} (hb : blocks.length = e.blocks)
    (he : eccs.length = e.blocks) : (interleave e blocks eccs).length = e.total := by
  have hf : ∀ (n : Nat) (bs : List (List Byte)),
      ((List.range n).flatMap fun i => bs.map fun b => b.getD i 0).length = n * bs.length := by
    intro n bs
    induction n with
    | zero => simp
    | succ n ih => rw [List.range_succ, List.flatMap_append, List.length_append, ih]; simp [Nat.add_mul]
  unfold interleave
  rw [List.length_append, List.length_append, hf, hf, List.length_map, List.length_drop, hb, he]
  unfold BlockEntry.total BlockEntry.capacity BlockEntry.blocks
  omega

theorem length_streamOut (P : Params) (s : State) : (s.streamOut P).length = (s.entry P).total := by
  unfold State.streamOut codewords
  exact length_interleave _ (length_dataBlocks _ _) (by simp [eccBlocks, length_dataBlocks])

/-! ### The default tables stay in range -/

theorem stdBlockTable_bounds {v l : Nat} (hv1 : 1 ≤ v) (hv : v ≤ 40) (hl : l < 4) :
    (stdBlockTable v l).total ≤ 3706 ∧ 7 ≤ (stdBlockTable v l).eccWidth ∧ (stdBlockTable v l).eccWidth ≤ 30 ∧
      9 ≤ (stdBlockTable v l).capacity ∧ (stdBlockTable v l).capacity ≤ 2956 := by
  have h : ∀ v < 41, ∀ l < 4, 1 ≤ v →
      ((stdBlockTable v l).total ≤ 3706 ∧ 7 ≤ (stdBlockTable v l).eccWidth ∧ (stdBlockTable v l).eccWidth ≤ 30 ∧
        9 ≤ (stdBlockTable v l).capacity ∧ (stdBlockTable v l).capacity ≤ 2956) := by
    decide +kernel
  exact h v (by omega) l hl hv1

theorem State.level_lt (s : State) : s.level < 4 := s.eccLvl.isLt

theorem State.entry_bounds {s : State} (h : s.cfgOk = true) :
    (s.entry stdParams).total ≤ 3706 ∧ 7 ≤ (s.entry stdParams).eccWidth ∧ (s.entry stdParams).eccWidth ≤ 30 ∧
      9 ≤ (s.entry stdParams).capacity ∧ (s.entry stdParams).capacity ≤ 2956 :=
  stdBlockTable_bounds (State.cfgOk_iff.mp h).1 (State.cfgOk_iff.mp h).2 s.level_lt

/-- The inner alignment walk needs no more rounds than its start column, for every spacing but 0 (R206). -/
theorem alignRow_fuel {t y fuel x : Nat} (ht : 1 ≤ t) (h : x ≤ fuel) : alignRow t y (fuel + 1) x = alignRow t y fuel x := by
  induction fuel generalizing x with
  | zero =>
    obtain rfl : x = 0 := by omega
    simp [alignRow]
  | succ fuel ih =>
    rw [alignRow, ih (x := x - t) (by omega)]
    conv_rhs => rw [alignRow]

/-- The outer alignment walk needs no more rounds than its start row, for every spacing but 0 (R206). -/
theorem alignRows_fuel {W t fuel y : Nat} (ht : 1 ≤ t) (h : y < fuel) :
    alignRows W t (fuel + 1) y = alignRows W t fuel y := by
  induction fuel generalizing y with
  | zero => omega
  | succ fuel ih =>
    rw [alignRows]
    conv_rhs => rw [alignRows]
    by_cases hy : y ≤ t + 9
    · simp [hy]
    · rw [ih (y := y - t) (by omega)]

/-- The default spacings are at least 11, a default CAP holds the header, and the length field holds every size up to a
default LIMIT (R171, R173, R176, R206): nothing of assumption log entry 16 applies to the default tables. -/
theorem stdTables_regular :
    (∀ v < 41, 1 ≤ v → 11 ≤ stdParams.alignDelta v) ∧
      ∀ v < 41, 1 ≤ v → ∀ l < 4, headerLength v ≤ (stdParams.blockTable v l).capacity ∧
        payloadLimit v (stdParams.blockTable v l) < 2 ^ lengthBits v := by decide +kernel

/-- Every alignment pattern is inside the matrix (R202, R206). -/
theorem alignCentres_inside {v : Nat} (hv : v ≤ 40) :
    ∀ c ∈ alignCentres stdParams v, c.1 + 2 < width v ∧ c.2 + 2 < width v := by
  have h : ∀ v < 41, ∀ c ∈ alignCentres stdParams v, c.1 + 2 < width v ∧ c.2 + 2 < width v := by decide +kernel
  exact h v (by omega)

/-- Every `put` of the frame is inside the matrix (R202). -/
theorem framePuts_inside {v : Nat} (hv1 : 1 ≤ v) (hv : v ≤ 40) :
    ∀ w ∈ framePuts stdParams v, w.x < width v ∧ w.y < width v := by
  have hW : 21 ≤ width v := by unfold width; omega
  intro w hw
  simp only [framePuts, finders, finder, separators, alignments, align, darkModule, timing, versionInfo, formatStrips,
    List.mem_append, List.mem_flatMap, List.mem_map, List.mem_range, List.mem_cons, List.not_mem_nil, or_false] at hw
  rcases hw with (((((((⟨a, ha, b, hb, rfl⟩ | ⟨a, ha, b, hb, rfl⟩) | ⟨a, ha, b, hb, rfl⟩) | ⟨a, ha, hs⟩) |
    ⟨c, hc, a, ha, b, hb, rfl⟩) | rfl) | ⟨a, ha, ht⟩) | hvi) | ((⟨a, ha, hf⟩ | ⟨a, ha, rfl⟩) | ⟨a, ha, rfl⟩)
  · dsimp only; omega
  · dsimp only; omega
  · dsimp only; omega
  · rcases hs with rfl | rfl | rfl | rfl | rfl | rfl <;> dsimp only <;> omega
  · have := alignCentres_inside hv c hc
    dsimp only; omega
  · dsimp only; omega
  · rcases ht with rfl | rfl <;> dsimp only <;> omega
  · split at hvi
    · simp only [List.mem_flatMap, List.mem_range, List.mem_cons, List.not_mem_nil, or_false] at hvi
      obtain ⟨k, hk, rfl | rfl⟩ := hvi <;> dsimp only <;> omega
    · simp at hvi
  · rcases hf with rfl | rfl <;> dsimp only <;> omega
  · dsimp only; omega
  · dsimp only; omega

theorem formatWrites_inside {v : Nat} (f : BitVec 15) (hv1 : 1 ≤ v) :
    ∀ w ∈ formatWrites (width v) f, w.x < width v ∧ w.y < width v := by
  intro w hw
  simp only [formatWrites, List.mem_flatMap, List.mem_range, List.mem_cons, List.not_mem_nil, or_false] at hw
  obtain ⟨k, hk, rfl | rfl⟩ := hw
  · simp only [cellA, width]; split <;> simp <;> omega
  · simp only [cellB, width]; split <;> (try split) <;> (try split) <;> simp <;> omega

theorem mem_bandCells {W : Nat} {b : Nat × Bool} {c : Nat × Nat} :
    c ∈ bandCells W b ↔ c.2 < W ∧ (c.1 = b.1 ∨ c.1 = b.1 - 1) := by
  obtain ⟨x, y⟩ := c
  unfold bandCells
  split <;> simp only [List.mem_flatMap, List.mem_reverse, List.mem_range, List.mem_cons, List.not_mem_nil, or_false,
    Prod.mk.injEq] <;> constructor
  · rintro ⟨a, ha, ⟨h1, rfl⟩ | ⟨h1, rfl⟩⟩ <;> exact ⟨ha, by simp [h1]⟩
  · rintro ⟨ha, h | h⟩ <;> exact ⟨y, ha, by simp [h]⟩
  · rintro ⟨a, ha, ⟨h1, rfl⟩ | ⟨h1, rfl⟩⟩ <;> exact ⟨ha, by simp [h1]⟩
  · rintro ⟨ha, h | h⟩ <;> exact ⟨y, ha, by simp [h]⟩

theorem bands_le {fuel col : Nat} {up : Bool} {b : Nat × Bool} (h : b ∈ bands fuel col up) : b.1 ≤ col := by
  induction fuel generalizing col up with
  | zero => simp [bands] at h
  | succ fuel ih =>
    unfold bands at h
    split at h
    · simp at h
    · simp only [List.mem_cons] at h
      rcases h with rfl | h
      · simp only; split <;> omega
      · have := ih h
        split at this <;> omega

theorem walk_inside {W : Nat} (hW : 0 < W) {c : Nat × Nat} (h : c ∈ walk W) : c.1 < W ∧ c.2 < W := by
  unfold walk at h
  obtain ⟨b, hb, hc⟩ := List.mem_flatMap.mp h
  have h1 := bands_le hb
  obtain ⟨h2, h3⟩ := mem_bandCells.mp hc
  omega

theorem mem_deposit {p : List (Nat × Nat)} {bs : List Bool} {w : CellWrite} (h : w ∈ deposit p bs) :
    (w.x, w.y) ∈ p := by
  induction p generalizing bs with
  | nil => simp [deposit] at h
  | cons c p ih =>
    cases bs with
    | nil =>
      simp only [deposit, List.mem_cons] at h ⊢
      rcases h with rfl | h
      · exact .inl rfl
      · exact .inr (ih h)
    | cons b bs =>
      simp only [deposit, List.mem_cons] at h ⊢
      rcases h with rfl | h
      · exact .inl rfl
      · exact .inr (ih h)

theorem width_pos (v : Nat) : 0 < width v := by unfold width; omega

theorem placeWrites_inside (P : Params) (s : State) :
    ∀ w ∈ s.placeWrites P, w.x < width s.ver ∧ w.y < width s.ver ∧ s.cell .reserved w.x w.y = false := by
  intro w hw
  have h := mem_deposit hw
  unfold State.path path at h
  obtain ⟨h1, h2⟩ := List.mem_filter.mp h
  have h3 := walk_inside (width_pos _) h1
  exact ⟨h3.1, h3.2, by simpa using h2⟩

theorem mem_maskWrites {P : Params} {s : State} {m : Nat} {w : CellWrite} :
    w ∈ s.maskWrites P m ↔
      w.x < width s.ver ∧ w.y < width s.ver ∧ s.cell .reserved w.x w.y = false ∧ P.maskPred m w.x w.y = true ∧
        w.bit = !s.cell .bitmap w.x w.y := by
  obtain ⟨x, y, b⟩ := w
  simp only [State.maskWrites, List.mem_map, List.mem_filter, Prod.exists, mem_allCells, CellWrite.mk.injEq,
    Bool.and_eq_true, Bool.not_eq_true']
  constructor
  · rintro ⟨a, c, ⟨⟨h1, h2⟩, h3, h4⟩, rfl, rfl, rfl⟩
    exact ⟨h1, h2, h3, h4, rfl⟩
  · rintro ⟨h1, h2, h3, h4, rfl⟩
    exact ⟨x, y, ⟨⟨h1, h2⟩, h3, h4⟩, rfl, rfl, rfl⟩

end Sys2Proof.Machine
end

