-- ==== Sys2Proof/Laws/Frame.lean ====
section
/-! SUPPORT. How many cells of a symbol its frame leaves free (43_frame.md R212; 44_place.md R233). -/
namespace Sys2Proof.Machine

/-- How many different numbers a list holds beside those whose bit of `seen` is 1. -/
def countNew (seen : Nat) : List Nat → Nat
  | [] => 0
  | k :: ks => if seen.testBit k then countNew seen ks else countNew (seen ||| 1 <<< k) ks + 1

theorem countNew_eq_card (seen : Nat) (ks : List Nat) :
    countNew seen ks = (ks.toFinset.filter fun k => seen.testBit k = false).card := by
  induction ks generalizing seen with
  | nil => rfl
  | cons k ks ih =>
    rw [countNew, List.toFinset_cons, Finset.filter_insert]
    by_cases h : seen.testBit k = true
    · simp [h, ih]
    · simp only [Bool.not_eq_true] at h
      rw [if_neg (by simp [h]), if_pos h, ih, ← Finset.card_insert_of_notMem (a := k)
        (by simp [Nat.one_shiftLeft, Nat.testBit_two_pow_self])]
      congr 1
      ext j
      by_cases hj : j = k
      · simp [hj]
      · simp [hj, Nat.one_shiftLeft, Nat.testBit_two_pow, Ne.symm hj]

/-- The cells a frame puts, cell (x, y) numbered y·W + x. -/
def frameKeys (v : Nat) : List Nat := (framePuts stdParams v).map fun p => p.y * width v + p.x

/-- The remainder cells of a version (R233). -/
def remainderCells (v : Nat) : Nat :=
  if v = 1 ∨ (7 ≤ v ∧ v ≤ 13) ∨ 35 ≤ v then 0 else if v ≤ 6 then 7 else if 21 ≤ v ∧ v ≤ 27 then 4 else 3

/-- The cells put, the 8·TOTAL bits of the stream and the remainder cells make up the matrix. -/
theorem countNew_frameKeys {v : Nat} (hv1 : 1 ≤ v) (hv : v ≤ 40) :
    countNew 0 (frameKeys v) + 8 * (stdBlockTable v 0).total + remainderCells v = width v * width v := by
  have h : ∀ v < 41, 1 ≤ v →
      countNew 0 (frameKeys v) + 8 * (stdBlockTable v 0).total + remainderCells v = width v * width v := by
    decide +kernel
  exact h v (by omega) hv1

/-- TOTAL is the same at every level of a version (R171). -/
theorem total_eq_of_level {v l : Nat} (hv1 : 1 ≤ v) (hv : v ≤ 40) (hl : l < 4) :
    (stdBlockTable v l).total = (stdBlockTable v 0).total := by
  have h : ∀ v < 41, 1 ≤ v → ∀ l < 4, (stdBlockTable v l).total = (stdBlockTable v 0).total := by decide +kernel
  exact h v (by omega) hv1 l hl

theorem sum_map_range (f : Nat → Nat) (n : Nat) : ((List.range n).map f).sum = ∑ i ∈ Finset.range n, f i := by
  induction n with
  | zero => rfl
  | succ n ih => rw [List.range_succ, Finset.sum_range_succ, ← ih]; simp

/-- The cells of the matrix that no `put` of the frame names are the stream's 8·TOTAL and the remainder cells (R212, R233). -/
theorem frame_freeCells {v l : Nat} (hv1 : 1 ≤ v) (hv : v ≤ 40) (hl : l < 4) :
    ((List.range (width v)).map fun y => ((List.range (width v)).map fun x =>
      if ∃ p ∈ framePuts stdParams v, p.x = x ∧ p.y = y then 0 else 1).sum).sum =
      8 * (stdBlockTable v l).total + remainderCells v := by
  have hin := framePuts_inside hv1 hv
  have hc := countNew_frameKeys hv1 hv
  rw [countNew_eq_card] at hc
  simp only [Nat.zero_testBit, Finset.filter_true] at hc
  rw [total_eq_of_level hv1 hv hl]
  set W := width v with hW
  set cells := (Finset.range W ×ˢ Finset.range W) with hcells
  have hcard : (cells.filter fun c => ∃ p ∈ framePuts stdParams v, p.x = c.2 ∧ p.y = c.1).card =
      (frameKeys v).toFinset.card := by
    apply Finset.card_bij (fun c _ => c.1 * W + c.2)
    · intro c hc
      obtain ⟨-, p, hp, h1, h2⟩ := Finset.mem_filter.mp hc
      simp only [frameKeys, List.mem_toFinset, List.mem_map]
      exact ⟨p, hp, by rw [h1, h2]⟩
    · rintro ⟨y, x⟩ ha ⟨y', x'⟩ hb h
      simp only [hcells, Finset.mem_filter, Finset.mem_product, Finset.mem_range] at ha hb h
      have div (y x : Nat) (hx : x < W) : (y * W + x) / W = y := by
        rw [Nat.add_comm, Nat.add_mul_div_right _ _ (by omega), Nat.div_eq_of_lt hx, Nat.zero_add]
      have h1 : y = y' := by rw [← div y x ha.1.2, h, div y' x' hb.1.2]
      subst h1
      simp only [Prod.mk.injEq, true_and]; omega
    · intro k hk
      simp only [frameKeys, List.mem_toFinset, List.mem_map] at hk
      obtain ⟨p, hp, rfl⟩ := hk
      exact ⟨(p.y, p.x), by simpa [hcells, hin p hp, (hin p hp).1, (hin p hp).2] using ⟨p, hp, rfl, rfl⟩, rfl⟩
  have hsplit := Finset.card_filter_add_card_filter_not (s := cells)
    fun c => ∃ p ∈ framePuts stdParams v, p.x = c.2 ∧ p.y = c.1
  have hprod : cells.card = W * W := by simp [hcells]
  have hsum : ((List.range W).map fun y => ((List.range W).map fun x =>
      if ∃ p ∈ framePuts stdParams v, p.x = x ∧ p.y = y then 0 else 1).sum).sum =
      (cells.filter fun c => ¬∃ p ∈ framePuts stdParams v, p.x = c.2 ∧ p.y = c.1).card := by
    rw [sum_map_range, Finset.card_filter, hcells, Finset.sum_product]
    refine Finset.sum_congr rfl fun y _ => ?_
    rw [sum_map_range]
    refine Finset.sum_congr rfl fun x _ => ?_
    split <;> simp_all
  omega

end Sys2Proof.Machine
end

