-- ==== Sys2Proof/Laws/PerInstr.lean ====
section
/-! SUPPORT. Statements made per command: family TableRow says that a command's word is selected by its own row of the opcode
map, in the match/mask form of 30_encoding.md R102. -/

namespace Sys2Proof.Laws.TableRow

/-- The mask of a command's row (R102): commands with MID leave bits [10:8] out. -/
def mask : Instr → Word
  | .maskApply _ | .formatEmbed _ => 0xFFFFF8FF
  | .nop | .gfLog | .gfExp | .rsGen | .rsEnc | .streamBuild | .frameBuild | .place => 0xFFFFFFFF
  | .maskScore | .maskSelect | .sessionBegin | .encode => 0xFFFFFFFF

/-- A well-formed command's word matches its own row (R102), and its MID stands in bits [10:8] (R101). -/
def Statement (i : Instr) : Prop :=
  i.wellFormed = true →
    encode i &&& mask i = BitVec.ofNat 32 (opcodeOf i) ∧ midField (encode i) = midOf i

theorem nop : Statement .nop := by unfold Statement; decide

theorem gfLog : Statement .gfLog := by unfold Statement; decide

theorem gfExp : Statement .gfExp := by unfold Statement; decide

theorem rsGen : Statement .rsGen := by unfold Statement; decide

theorem rsEnc : Statement .rsEnc := by unfold Statement; decide

theorem streamBuild : Statement .streamBuild := by unfold Statement; decide

theorem frameBuild : Statement .frameBuild := by unfold Statement; decide

theorem place : Statement .place := by unfold Statement; decide

theorem maskApply (mid : Nat) : Statement (.maskApply mid) := by
  intro h
  have h8 : ∀ m < 8, encode (.maskApply m) &&& mask (.maskApply m) = BitVec.ofNat 32 (opcodeOf (.maskApply m)) ∧
      midField (encode (.maskApply m)) = midOf (.maskApply m) := by decide
  exact h8 mid (by simpa [Instr.wellFormed] using h)

theorem maskScore : Statement .maskScore := by unfold Statement; decide

theorem maskSelect : Statement .maskSelect := by unfold Statement; decide

theorem formatEmbed (mid : Nat) : Statement (.formatEmbed mid) := by
  intro h
  have h8 : ∀ m < 8, encode (.formatEmbed m) &&& mask (.formatEmbed m) = BitVec.ofNat 32 (opcodeOf (.formatEmbed m)) ∧
      midField (encode (.formatEmbed m)) = midOf (.formatEmbed m) := by decide
  exact h8 mid (by simpa [Instr.wellFormed] using h)

theorem sessionBegin : Statement .sessionBegin := by unfold Statement; decide

theorem encode : Statement .encode := by unfold Statement; decide

end Sys2Proof.Laws.TableRow
end

