-- ==== Sys2Proof/Tests/Slice0.lean ====
section
/-! SUPPORT. Tests of the model, their expected values from spec/ (30_encoding.md R102, R106 for the words, 95_test_vectors.md
for the results), and for each statement with hypotheses a witness that meets them. -/

set_option Elab.async false

namespace Sys2Proof.Tests

open Sys2Proof.Machine

/-! ### Helpers -/

/-- The next state of an outcome, the reset state where there is none. -/
def after : Host.Outcome State Fault Refusal → State
  | .next t => t
  | .fault _ => State.reset
  | .refused _ => State.reset

/-- The state a command leads to. -/
def ran (i : Instr) (s : State) : State := after (exec i s)

/-- Reset, then CFG written. -/
def configured (v : BitVec 6) (l : BitVec 2) : State := { State.reset with version := v, eccLvl := l }

/-- Reset, then ARG0, ARG1, ARG2 written. -/
def withArgs (a b c : Word) : State := { State.reset with arg0 := a, arg1 := b, arg2 := c }

/-- The payload "A" at (1, L). -/
def letterA : State := { configured 1 0 with plen := 1, mem := [(0x4000, 0x41)] }

/-- BITMAP rows 0..20 of the bare version-1 frame (vector L2-FB). -/
def frameBitmap : List Nat :=
  [0xFE, 0x03, 0xF8, 0x82, 0x02, 0x08, 0xBA, 0x02, 0xE8, 0xBA, 0x02, 0xE8, 0xBA, 0x02, 0xE8, 0x82, 0x02, 0x08] ++
  [0xFE, 0xAB, 0xF8, 0x00, 0x00, 0x00, 0x02, 0x00, 0x00, 0x00, 0x00, 0x00, 0x02, 0x00, 0x00, 0x00, 0x00, 0x00] ++
  [0x02, 0x00, 0x00, 0x00, 0x80, 0x00, 0xFE, 0x00, 0x00, 0x82, 0x00, 0x00, 0xBA, 0x00, 0x00, 0xBA, 0x00, 0x00] ++
  [0xBA, 0x00, 0x00, 0x82, 0x00, 0x00, 0xFE, 0x00, 0x00]

/-- RESERVED rows 0..20 of the version-1 frame (vector L2-FB). -/
def frameReserved : List Nat :=
  [0xFF, 0x87, 0xF8, 0xFF, 0x87, 0xF8, 0xFF, 0x87, 0xF8, 0xFF, 0x87, 0xF8, 0xFF, 0x87, 0xF8, 0xFF, 0x87, 0xF8] ++
  [0xFF, 0xFF, 0xF8, 0xFF, 0x87, 0xF8, 0xFF, 0x87, 0xF8, 0x02, 0x00, 0x00, 0x02, 0x00, 0x00, 0x02, 0x00, 0x00] ++
  [0x02, 0x00, 0x00, 0xFF, 0x80, 0x00, 0xFF, 0x80, 0x00, 0xFF, 0x80, 0x00, 0xFF, 0x80, 0x00, 0xFF, 0x80, 0x00] ++
  [0xFF, 0x80, 0x00, 0xFF, 0x80, 0x00, 0xFF, 0x80, 0x00]

/-- Memory cells of consecutive bytes of a RAM. -/
def cells (r : Ram) (bs : List Nat) : Memory := bs.zipIdx.map fun b => (r.addr b.2, BitVec.ofNat 8 b.1)

/-- The bare version-1 frame as the vector lists it. -/
def bareFrame (l : BitVec 2) : State :=
  { configured 1 l with
    frameBuilt := true
    arenaUsed := 126
    mem := cells .bitmap frameBitmap ++ cells .reserved frameReserved }

/-- A version-1 frame in which only the four cells (19..20, 19..20) are free, and a stream that begins 0x40. -/
def cornerFree : State :=
  { configured 1 0 with
    frameBuilt := true
    streamValid := true
    mem := (0x8000, 0x40) :: (cells .bitmap (List.replicate 63 0xFF) ++
      cells .reserved (List.replicate 59 0xFF ++ [0xE7, 0xFF, 0xFF, 0xE7])) }

/-- Bytes of a RAM as numbers. -/
def bytes (s : State) (r : Ram) (start n : Nat) : List Nat := (s.ramBytes r start n).map BitVec.toNat

/-- The host's next access. -/
def pends (a : Input) (s : State) : State := { s with pending := [a] }

/-- QRC executing an accepted word with some latency left. -/
def executing (w : Word) (n : Nat) (s : State) : State := { s with cmd := w, seq := .executing n }

/-! ### Well-formedness: an ill-formed term of each check is refused -/

theorem test_illFormed_maskApply : (Instr.maskApply 8).wellFormed = false := by decide

theorem test_illFormed_formatEmbed : (Instr.formatEmbed 8).wellFormed = false := by decide

/-! ### Decoding: each constructor's word, bit by bit from R100 and R102 -/

theorem test_decode_nop : decode 0b00000000000000000000000000000000 = .ok .nop := by decide

theorem test_decode_gfLog : decode 0b00000000000000000000000000000001 = .ok .gfLog := by decide

theorem test_decode_gfExp : decode 0b00000000000000000000000000000010 = .ok .gfExp := by decide

theorem test_decode_rsGen : decode 0b00000000000000000000000000010000 = .ok .rsGen := by decide

theorem test_decode_rsEnc : decode 0b00000000000000000000000000010001 = .ok .rsEnc := by decide

theorem test_decode_streamBuild : decode 0b00000000000000000000000000100000 = .ok .streamBuild := by decide

theorem test_decode_frameBuild : decode 0b00000000000000000000000000110000 = .ok .frameBuild := by decide

theorem test_decode_place : decode 0b00000000000000000000000001000000 = .ok .place := by decide

theorem test_decode_maskApply : decode 0b00000000000000000000011001010000 = .ok (.maskApply 6) := by decide

theorem test_decode_maskScore : decode 0b00000000000000000000000001010001 = .ok .maskScore := by decide

theorem test_decode_maskSelect : decode 0b00000000000000000000000001010010 = .ok .maskSelect := by decide

theorem test_decode_formatEmbed : decode 0b00000000000000000000000101100000 = .ok (.formatEmbed 1) := by decide

theorem test_decode_sessionBegin : decode 0b00000000000000000000000001110000 = .ok .sessionBegin := by decide

theorem test_decode_encode : decode 0b00000000000000000000000001111111 = .ok .encode := by decide

/-- Vectors X1, X2, X3, and a reserved opcode of R104. -/
theorem test_decode_illegal :
    decode 0x003 = .error .opcode ∧ decode 0x800 = .error .reservedBits ∧ decode 0x100 = .error .midNotZero ∧
      decode 0x80 = .error .opcode := by decide

theorem test_decodeTableWord : decodeTableWord 32 0x750 = some (.maskApply 7) ∧ decodeTableWord 32 0x53 = none := by
  decide

/-! ### One command each -/

/-- R290. -/
theorem test_nop : (ran .nop (executing 0 0 State.reset)).statusWord = 0x002 := by decide

/-- R137 example and corner case. -/
theorem test_gfLog : (ran .gfLog (withArgs 0x1D 0 0)).result = 8 ∧ (ran .gfLog (withArgs 0x102 0 0)).result = 1 := by
  decide +kernel

/-- R138 corner cases. -/
theorem test_gfExp :
    (ran .gfExp (withArgs 509 0 0)).result = 0x8E ∧ (ran .gfExp (withArgs 0xFFFFFFFF 0 0)).result = 1 := by
  decide +kernel

/-- L2-RG, e = 7. -/
theorem test_rsGen : bytes (ran .rsGen (withArgs 7 0 0)) .gen 0 8 = [21, 102, 238, 149, 146, 229, 87, 0] := by
  decide +kernel

/-- L2-RG, e = 69: BAD_ARG. -/
theorem test_rsGen_badArg :
    (ran .rsGen (withArgs 69 0 0)).errCode = .badArg ∧ (ran .rsGen (withArgs 69 0 0)).genValid = false := by
  decide +kernel

/-- Reset, then the generator of degree 2 and STREAM[0..3] = 01 02 03 00. -/
def rsState (a b c : Word) : State :=
  { withArgs a b c with
    genValid := true
    genLen := 2
    mem := [(0x1800, 1), (0x1804, 25), (0x1808, 0), (0x8000, 1), (0x8004, 2), (0x8008, 3), (0x800C, 0)] }

/-- L2-RE, the overlap corner case. -/
theorem test_rsEnc_overlap : bytes (ran .rsEnc (rsState 0 1 3)) .stream 0 4 = [1, 4, 4, 0] := by decide +kernel

/-- L2-RE: dst + e = 4097 raises BAD_ARG. -/
theorem test_rsEnc_badArg : (ran .rsEnc (rsState 0 4095 3)).errCode = .badArg := by decide +kernel

/-- R181 example. -/
theorem test_streamBuild :
    bytes (ran .streamBuild letterA) .stream 0 26 =
      [0x40, 0x14, 0x10, 0xEC, 0x11, 0xEC, 0x11, 0xEC, 0x11, 0xEC, 0x11, 0xEC, 0x11, 0xEC, 0x11, 0xEC, 0x11, 0xEC, 0x11,
        0x52, 0x4B, 0xB5, 0x3B, 0xAF, 0x8D, 0xF1] := by decide +kernel

/-- R7, R176: with another MODE_NIBBLE, 0b0001, the first codeword of "A" is 0x10. -/
theorem test_streamBuild_otherTable :
    bytes (after (execWith { stdParams with modeNibble := 0b0001 } .streamBuild letterA)) .stream 0 1 = [0x10] := by
  decide +kernel

/-- L2-FB, version 1: BITMAP and RESERVED row by row. -/
theorem test_frameBuild :
    bytes (ran .frameBuild (configured 1 0)) .bitmap 0 63 = frameBitmap ∧
      bytes (ran .frameBuild (configured 1 0)) .reserved 0 63 = frameReserved := by decide +kernel

/-- R200: a second FRAME_BUILD of a session (vector X6). -/
theorem test_frameBuild_again :
    (ran .frameBuild (bareFrame 0)).errCode = .frameAlreadyBuilt ∧ (ran .frameBuild (bareFrame 0)).arenaUsed = 126 := by
  decide +kernel

/-- R230 example: the first four cells of the path get 0, 1, 0, 0 from 0x40. -/
theorem test_place : bytes (ran .place cornerFree) .bitmap 57 6 = [0xFF, 0xFF, 0xE7, 0xFF, 0xFF, 0xF7] := by decide +kernel

/-- L2-PL: PLACE without a stream raises SEQ. -/
theorem test_place_seq : (ran .place (bareFrame 0)).errCode = .seq := by decide +kernel

/-- L2-MK: mask 4 on the bare version-1 frame, rows 9 and 10. -/
theorem test_maskApply :
    bytes (ran (.maskApply 4) (bareFrame 0)) .bitmap 27 6 = [0xE1, 0x8E, 0x38, 0x1E, 0x71, 0xC0] := by decide +kernel

/-- R260 example: the bare version-1 frame. -/
theorem test_maskScore : (bareFrame 0).penalty = ⟨566, 711, 720, 50, 106⟩ := by decide +kernel

/-- L2-MK: lines of the table, and rules 1, 3 and 4. -/
theorem test_runRules :
    runList [true, true, false, false, true, true, true, true, true, true, false, false, true, true] =
        [0, 2, 2, 6, 2, 2] ∧
      findersPenalty [0, 2, 2, 6, 2, 2, 7] = 40 ∧ runsPenalty [0, 2, 2, 6, 2, 2, 7] = 9 ∧
      findersPenalty [2, 1, 1, 3, 1, 1, 2, 1] = 0 ∧ balancePenalty 25 250 = 20 ∧ balancePenalty 25 251 = 10 := by
  decide

/-- L2-MK: the bare frame's score under mask 3. -/
theorem test_maskSelect_score :
    scoreOfMask stdParams 21 ((bareFrame 0).grid .reserved) ((bareFrame 0).grid .bitmap) 3 = 1066 := by decide +kernel

/-- R262: the lowest score wins, the lowest id on a tie (the scores of "A", and a tie of masks 1 and 6). -/
theorem test_maskSelect_best :
    leastMin [1051, 1122, 1119, 1104, 1101, 1138, 1167, 1109] = 0 ∧ leastMin [9, 4, 7, 5, 6, 8, 4, 5] = 1 := by decide

/-- L2-FE: (1, H), m = 5, row 8. -/
theorem test_formatEmbed : bytes (ran (.formatEmbed 5) (bareFrame 3)) .bitmap 24 3 = [0x06, 0x02, 0xA8] := by
  decide +kernel

/-- L2-E: ENCODE with ARENA_LIMIT = 127 (program P7). -/
theorem test_encode_partial :
    (ran .encode { configured 1 0 with arenaLimit := 127 }).statusWord = 0x606 ∧
      (ran .encode { configured 1 0 with arenaLimit := 127 }).arenaUsed = 26 := by decide +kernel

/-- L2-E: SESSION_BEGIN after FRAME_BUILD. -/
theorem test_sessionBegin :
    (ran .sessionBegin (bareFrame 0)).statusWord = 0x002 ∧ (ran .sessionBegin (bareFrame 0)).arenaUsed = 0 := by
  decide +kernel

/-! ### The bus and the step -/

/-- The accepted word runs in the very next step (`withFetchWord`). -/
theorem test_withFetchWord :
    step (State.withFetchWord State.reset 32 0x01) = exec .gfLog (State.withFetchWord State.reset 32 0x01) := rfl

/-- Vectors X18, X19. -/
theorem test_registers_keep_fields :
    (State.busWrite stdParams State.reset 0x00014 0xFFFFFFFF).plenWord = 0xFFF ∧
      (State.busWrite stdParams State.reset 0x00010 0xFFFFFFFF).cfgWord = 0x33F := by decide

/-- Vectors X12, X13: enable the interrupt, run a NOP, clear DONE. -/
theorem test_interrupt :
    (ran .nop (State.busWrite stdParams State.reset 0x00004 0x6)).statusWord = 0x00A ∧
      (State.busWrite stdParams (ran .nop (State.busWrite stdParams State.reset 0x00004 0x6)) 0x00008 0x2).irq = false := by
  decide

/-- Vector X9: a write while BUSY. -/
theorem test_busyWrite :
    (State.busWrite stdParams (executing 0x7F 1 State.reset) 0x00018 5).errCode = .busyWrite ∧
      (State.busWrite stdParams (executing 0x7F 1 State.reset) 0x00018 5).arg0 = 0 := by decide

/-- Vector X8: a CFG write under the lock. -/
theorem test_cfgLocked :
    (State.busWrite stdParams { configured 1 0 with streamValid := true } 0x00010 0x102).errCode = .cfgLocked ∧
      (State.busWrite stdParams { configured 1 0 with streamValid := true } 0x00010 0x102).version = 1 := by decide

/-- L2-SB: the information registers at (40, H). -/
theorem test_information :
    (configured 40 3).capWord stdParams = 1276 ∧ (configured 40 3).totalWord stdParams = 3706 ∧
      (configured 40 3).blkWord stdParams = 0x1E0F3D14 ∧ (configured 40 3).geomWord = 0x17B1 := by decide +kernel

/-- Vector X17: a BITMAP write clears SELECTED and SYMBOL_VALID. -/
theorem test_bitmapWrite :
    (State.busWrite stdParams { State.reset with selected := true, symbolValid := true, placed := true } 0x0C000 0xFE).statusWord =
      0x0800 := by decide

/-- Vectors X10, X11: unmapped reads and an ignored ROM write. -/
theorem test_unmapped :
    (State.busRead stdParams State.reset 0x00044).readData = 0 ∧ (State.busRead stdParams State.reset 0x01C00).readData = 0 ∧
      (State.busRead stdParams State.reset 0x14000).readData = 0 ∧ State.busWrite stdParams State.reset 0x01000 7 = State.reset := by
  decide

/-- Vectors X14, X15 for the error path of an illegal word: BAD_CMD, then ERR cleared. -/
theorem test_rejectWord :
    (State.rejectWord (executing 0x100 0 State.reset)).statusWord = 0x006 ∧
      (State.busWrite stdParams (State.rejectWord (executing 0x100 0 State.reset)) 0x00008 0x4).statusWord = 0x002 := by decide

/-! ### Witnesses: for each statement with hypotheses, inputs that meet them, at the ends of each clause's range -/

/-- EncodeThenDecode. -/
theorem witness_wellFormed :
    Instr.encode.wellFormed = true ∧ (Instr.maskApply 7).wellFormed = true ∧ (Instr.formatEmbed 0).wellFormed = true := by
  decide

/-- DecodeThenEncode, at the least and greatest legal words with MID. -/
theorem witness_legalWord : decode 0x050 = .ok (.maskApply 0) ∧ decode 0x760 = .ok (.formatEmbed 7) := by decide

/-- IllegalWords: each of the three cases, and the idle state with the write pending. -/
theorem witness_illegalWord :
    decode 0x0FF = .error .opcode ∧ decode 0x80000000 = .error .reservedBits ∧ decode 0x77F = .error .midNotZero ∧
      (pends (.write 0x0000C 0x0FF) State.reset).seq = .idle ∧
      (pends (.write 0x0000C 0x0FF) State.reset).pending = .write 0x0000C 0x0FF :: [] := by decide

/-- StepRunsTheCommand: each of the five clauses. -/
theorem witness_step :
    ((executing 0x001 0 State.reset).seq = .executing 0 ∧ decode (executing 0x001 0 State.reset).cmd = .ok .gfLog) ∧
      (State.reset.seq = .idle ∧ State.reset.pending = []) ∧ (pends .powerOn State.reset).pending = .powerOn :: [] ∧
      ((pends (.read 4) (executing 0x001 1 State.reset)).seq = .executing (0 + 1) ∧
        (pends (.read 4) (executing 0x001 1 State.reset)).pending = .read 4 :: []) ∧
      (executing 0x001 1 State.reset).pending = [] := by decide

/-- AcceptedCommandRuns, with latencies 0 and 2. -/
theorem witness_acceptedCommand :
    ∀ n ∈ [0, 2], ({ pends (.write 0x0000C 0x001) State.reset with latencies := [n] } : State).seq = .idle ∧
      ({ pends (.write 0x0000C 0x001) State.reset with latencies := [n] } : State).pending = [.write 0x0000C 0x001] ∧
      ({ pends (.write 0x0000C 0x001) State.reset with latencies := [n] } : State).latencies = n :: [] ∧
      decode 0x001 = .ok .gfLog := by decide

/-- EveryStepKeepsInv: a state inside a session with an error recorded, GF_LOG executing. -/
theorem witness_inv :
    ({ executing 0x001 0 (bareFrame 2) with err := true, errCode := .seq, mem := [(0x4000, 7), (0x0C000, 1)] } : State).Inv := by
  constructor <;> decide

/-- Reset, then RS_GEN of degree 1. -/
def degreeOne : State := { State.reset with genValid := true, genLen := 1, mem := [(0x1800, 0), (0x1804, 0)] }

/-- EveryStepKeepsGenerator, with GEN_VALID = 1. -/
theorem witness_generator : degreeOne.genValid = true ∧ degreeOne.GenHolds ∧ ∃ t, step degreeOne = .next t :=
  ⟨rfl, fun _ => by decide +kernel, _, rfl⟩

/-- A version-1 state with every flag of a complete symbol and the format word of (L, 0) in a BITMAP of zeros. -/
def symbolState : State :=
  { configured 1 0 with
    frameBuilt := true
    selected := true
    bestValid := true
    symbolValid := true
    mem := Memory.storeCells 0 .bitmap 3 (cells .bitmap (List.replicate 63 0)) (formatWrites 21 0x77C4) }

/-- EveryStepKeepsSymbol, with SYMBOL_VALID = 1. -/
theorem witness_symbol :
    symbolState.symbolValid = true ∧ symbolState.SymbolHolds stdParams ∧ ∃ t, step symbolState = .next t :=
  ⟨rfl, fun _ => by decide +kernel, _, rfl⟩

/-- SessionLocksCfg: both clauses, each flag alone, addresses 0x010 and 0x013. -/
theorem witness_lock :
    (bareFrame 0).seq = .idle ∧ (bareFrame 0).frameBuilt = true ∧
      ({ State.reset with streamValid := true } : State).streamValid = true ∧ wordAddr 0x00010 = 0x010 ∧
      wordAddr 0x00013 = 0x010 ∧ ∃ t, step (bareFrame 0) = .next t :=
  ⟨rfl, rfl, rfl, by decide, by decide, _, rfl⟩

/-- CommandsChangeFlagsAsListed: commands that set each flag. -/
theorem witness_flagsSet :
    (ran .frameBuild (configured 1 0)).frameBuilt = true ∧ (ran .streamBuild (configured 1 0)).streamValid = true ∧
      (ran .rsGen (withArgs 1 0 0)).genValid = true ∧ (ran .place cornerFree).placed = true ∧
      (ran .maskSelect (bareFrame 0)).selected = true ∧
      (ran .streamBuild { configured 1 0 with plen := 18 }).truncated = true ∧
      (ran (.formatEmbed 0) { symbolState with symbolValid := false }).symbolValid = true := by decide +kernel

/-- CommandsChangeFlagsAsListed: commands that clear each flag. -/
theorem witness_flagsCleared :
    (ran .sessionBegin (bareFrame 0)).frameBuilt = false ∧ (ran .sessionBegin cornerFree).streamValid = false ∧
      (ran .sessionBegin degreeOne).genValid = false ∧
      (ran .sessionBegin { State.reset with placed := true, truncated := true }).placed = false ∧
      (ran (.maskApply 0) symbolState).selected = false ∧ (ran (.formatEmbed 1) symbolState).symbolValid = false := by
  decide +kernel

/-- ArenaNeverReclaims, SessionLocksCfg: a step that charges the arena, one that ends a session, one that is a reset, and one
that completes a command while a reset is pending. -/
theorem witness_arena :
    (after (step (executing 0x030 0 (configured 1 0)))).arenaUsed = 126 ∧
      (after (step (executing 0x070 0 (bareFrame 0)))).arenaUsed = 0 ∧
      (after (step (pends (.write 0x00004 1) (bareFrame 0)))).arenaUsed = 0 ∧
      (after (step (pends .powerOn (executing 0x000 0 (bareFrame 0))))).arenaUsed = 126 := by decide +kernel

/-- IdleReads, RegisterReads, RegisterWrites, IgnoredWrites, WindowWrites: addresses at the ends of every clause's range. -/
theorem witness_addresses :
    wordAddr 0x01003 = 0x01000 + 4 * 0 ∧ wordAddr 0x013FC = 0x01000 + 4 * 255 ∧ wordAddr 0x01400 = 0x01400 + 4 * 0 ∧
      wordAddr 0x017FF = 0x01400 + 4 * 255 ∧ wordAddr 0x01800 = 0x01800 + 4 * 0 ∧ wordAddr 0x01BFC = 0x01800 + 4 * 255 ∧
      wordAddr 0x04000 = Ram.payload.addr 0 ∧ wordAddr 0x07FFC = Ram.payload.addr 4095 ∧
      wordAddr 0x08000 = Ram.stream.addr 0 ∧ wordAddr 0x0BFFC = Ram.stream.addr 4095 ∧
      wordAddr 0x0C000 = Ram.bitmap.addr 0 ∧ wordAddr 0x0FFFC = Ram.bitmap.addr 4095 ∧
      wordAddr 0x10000 = Ram.reserved.addr 0 ∧ wordAddr 0x13FFF = Ram.reserved.addr 4095 := by decide

/-- IdleReads and IgnoredWrites: reserved offsets and unmapped addresses at the ends of their ranges. -/
theorem witness_unmapped :
    wordAddr 0x00044 = 0x044 ∧ wordAddr 0x00088 = 0x088 ∧ wordAddr 0x00FFF < 0x01000 ∧ 0x088 ≤ wordAddr 0x00FFF ∧
      0x01C00 ≤ wordAddr 0x01C00 ∧ wordAddr 0x03FFF < 0x04000 ∧ 0x14000 ≤ wordAddr 0x14000 ∧
      0x14000 ≤ wordAddr 0x1FFFF ∧ wordAddr 0x00003 = 0x000 ∧ wordAddr 0x00024 = 0x024 ∧ wordAddr 0x0004C = 0x04C ∧
      State.reset.seq = .idle := by decide

/-- RegisterReads, RegisterWrites, StatusWriteOneClears: the register addresses (BEST, SCORE0, SCORE7, DARK the last). -/
theorem witness_registers :
    wordAddr 0x00006 = 0x004 ∧ wordAddr 0x00008 = 0x008 ∧ wordAddr 0x0000F = 0x00C ∧ wordAddr 0x00040 = 0x040 ∧
      wordAddr 0x00060 = 0x060 + 4 * (0 : Fin 8).val ∧ wordAddr 0x0007C = 0x060 + 4 * (7 : Fin 8).val ∧
      wordAddr 0x00084 = 0x084 ∧ wordAddr 0x00028 = 0x028 ∧ State.reset.errCode = .none ∧
      (State.raiseError .badCmd State.reset).errCode = .badCmd ∧ (0x6 : Word).getLsbD 0 = false ∧ State.reset.frameBuilt = false ∧
      State.reset.streamValid = false := by decide

/-- BusyReads, BusSideErrors: QRC executing, addresses 0x000, 0x00C and the last. -/
theorem witness_busy :
    (executing 0x07F 0 State.reset).seq = .executing 0 ∧ (executing 0x07F 3 State.reset).seq = .executing 3 ∧
      wordAddr 0x00000 ≠ 0x004 ∧ wordAddr 0x0000C ≠ 0x008 ∧ wordAddr 0x1FFFF ≠ 0x008 := by decide

/-- ConfigurationRegisters: VERSION 0, 41 and 63 (illegal), 1 and 40 (legal). -/
theorem witness_configuration :
    (configured 0 0).version.toNat = 0 ∧ (configured 41 3).version.toNat = 41 ∧ (configured 63 3).version.toNat = 63 ∧
      (configured 1 0).version.toNat = 1 ∧ stdParams.blockTable 1 0 = ⟨1, 0, 19, 7⟩ ∧
      (configured 40 3).version.toNat = 40 ∧ stdParams.blockTable 40 3 = ⟨20, 61, 15, 30⟩ ∧
      (configured 40 3).seq = .idle := by decide +kernel

/-- FootprintCoversWrites: RS_GEN of degree 1 leaves GEN[2] alone. -/
theorem witness_footprint :
    Ram.gen.addr 2 ∉ footprint stdParams .rsGen (withArgs 1 0 0) ∧ ∃ t, exec .rsGen (withArgs 1 0 0) = .next t :=
  ⟨by decide +kernel, _, rfl⟩

/-- Resets: idle and executing, SRST = 1 with other bits set. -/
theorem witness_reset :
    State.reset.seq = .idle ∧ (executing 0x010 4 (withArgs 1 0 0)).seq = .executing 4 ∧
      decode (executing 0x010 4 (withArgs 1 0 0)).cmd = .ok .rsGen ∧ wordAddr 0x00004 = 0x004 ∧
      (0x7 : Word).getLsbD 0 = true ∧ Ram.gen.addr 2 ∉ footprint stdParams .rsGen (executing 0x010 4 (withArgs 1 0 0)) := by
  decide +kernel

/-- LogAndExpAreInverse: an operand. -/
theorem witness_logOperand : (withArgs 0x1FF 0 0).arg0.extractLsb' 0 8 = 0xFF#8 ∧ (0xFF#8 : Byte) ≠ 0 := by decide

/-- RsGenResult, GeneratorPolynomial, EncoderIsLinear: degrees 1 and 68. -/
theorem witness_degrees :
    ((withArgs 1 0 0).arg0.extractLsb' 0 8).toNat = 1 ∧ ((withArgs 0xFFFFFF44 0 0).arg0.extractLsb' 0 8).toNat = 68 ∧
      ([1, 2] : List Byte).length = ([3, 4] : List Byte).length := by decide

/-- RsEncResult: n = 0 at src = 4095, and dst + e = 4096. -/
theorem witness_rsEnc :
    ((rsState 0xFFFFFFFF 4094 0).arg0.extractLsb' 0 12).toNat = 4095 ∧
      ((rsState 0xFFFFFFFF 4094 0).arg1.extractLsb' 0 12).toNat = 4094 ∧
      ((rsState 0xFFFFFFFF 4094 0).arg2.extractLsb' 0 8).toNat = 0 ∧ (rsState 0xFFFFFFFF 4094 0).genLen.toNat = 2 ∧
      (rsState 0xFFFFFFFF 4094 0).genValid = true ∧ 4095 + 0 ≤ 4096 ∧ 4094 + 2 ≤ 4096 := by decide

/-- StreamBuildResult, FrameBuildResult, FrameGeometry, AlignmentPatterns, EncodeRunsThePipeline: versions 1 and 40 after
reset, ARENA_LIMIT exactly enough for version 1. -/
theorem witness_build :
    ∀ s ∈ [{ configured 1 0 with arenaLimit := 152 }, configured 40 3],
      1 ≤ s.version.toNat ∧ s.version.toNat ≤ 40 ∧ s.frameBuilt = false ∧
        s.arenaUsed.toNat + (stdParams.blockTable s.version.toNat s.eccLvl.toNat).total +
          2 * ((17 + 4 * s.version.toNat) * ((17 + 4 * s.version.toNat + 7) / 8)) ≤ s.arenaLimit.toNat := by decide +kernel

/-- FrameGeometry, AlignmentPatterns: the command completes, and version 7 has version cells and centres. -/
theorem witness_frame :
    (∃ t, exec .frameBuild (configured 7 0) = .next t) ∧ (6, 22) ∈ alignCentres stdParams 7 := ⟨⟨_, rfl⟩, by decide⟩

/-- HeaderAndPayloadCodewords, PaddingCodewords, InterleavePositions: a full and an empty payload, one block and 81. -/
theorem witness_payload :
    (List.replicate 17 (0x41 : Byte)).length + 2 ≤ (stdParams.blockTable 1 0).capacity ∧
      ([] : List Byte).length + 3 ≤ (stdParams.blockTable 40 3).capacity ∧
      (stdParams.blockTable 1 0).short + (stdParams.blockTable 1 0).long = 1 ∧
      (stdParams.blockTable 40 3).short + (stdParams.blockTable 40 3).long = 81 ∧
      (stdParams.blockTable 40 3).short < 81 := by decide +kernel

/-- PathCoversFreeCells: column 6 of the version-1 frame is reserved, and the right columns of version 1 (R231). -/
theorem witness_column6 :
    (∀ y < 21, (bareFrame 0).cell .reserved 6 y = true) ∧
      [20, 18, 16, 14, 12, 10, 8, 5, 3, 1] = ((List.range ((21 - 7) / 2)).map fun k => 21 - 1 - 2 * k) ++ [5, 3, 1] := by
  decide +kernel

/-- PlaceResult: a frame and a stream. -/
theorem witness_place :
    cornerFree.version.toNat = 1 ∧ cornerFree.frameBuilt = true ∧ cornerFree.streamValid = true ∧
      (stdParams.blockTable 1 0).total = 26 := by decide +kernel

/-- MaskApplyResult, MaskIsSelfInverse, MaskScoreResult, MaskSelectResult, FormatEmbedResult: versions 1 and 40 with a frame,
masks 0 and 7. -/
theorem witness_framed :
    (bareFrame 0).version.toNat = 1 ∧ (bareFrame 0).frameBuilt = true ∧
      ({ configured 40 0 with frameBuilt := true } : State).version.toNat = 40 ∧
      ({ configured 40 0 with frameBuilt := true } : State).frameBuilt = true ∧ 0 < 8 ∧ 7 < 8 := by decide

/-- EncodeKeepsCompletedSteps: room for the stream and one byte too little for the frame. -/
theorem witness_encodePartial :
    (configured 1 0).frameBuilt = false ∧ 26 ≤ ({ configured 1 0 with arenaLimit := 151 } : State).arenaLimit.toNat ∧
      ({ configured 1 0 with arenaLimit := 151 } : State).arenaLimit.toNat < 26 + 2 * (21 * 3) := by decide

/-- CommandErrors: each clause, at the ends of its range. -/
theorem witness_errors :
    (configured 0 0).version.toNat = 0 ∧ 40 < (configured 41 0).version.toNat ∧
      ((withArgs 0x100 0 0).arg0.extractLsb' 0 8).toNat = 0 ∧ 68 < ((withArgs 69 0 0).arg0.extractLsb' 0 8).toNat ∧
      State.reset.genValid = false ∧ (rsState 4094 0 3).genValid = true ∧
      4096 < ((rsState 4094 0 3).arg0.extractLsb' 0 12).toNat + ((rsState 4094 0 3).arg2.extractLsb' 0 8).toNat ∧
      4096 < ((rsState 0 4095 0).arg1.extractLsb' 0 12).toNat + (rsState 0 4095 0).genLen.toNat ∧
      ({ configured 1 0 with arenaLimit := 25 } : State).arenaLimit.toNat < (stdParams.blockTable 1 0).total ∧
      (bareFrame 0).frameBuilt = true ∧ (bareFrame 0).streamValid = false ∧ (configured 1 0).frameBuilt = false := by
  decide +kernel

/-- VersionAndFormatWords, PenaltyRules, ScoresFit: the ends of the ranges, and the lines of a 1×1 matrix. -/
theorem witness_ranges :
    7 ≤ 7 ∧ 7 ≤ 40 ∧ 40 ≤ 40 ∧ 1 ≤ 1 ∧ 3 < 4 ∧ 7 < 8 ∧
      ([[true], [true]] : List (List Bool)) =
        ((List.range 1).map fun _ => (List.range 1).map fun _ => true) ++
          ((List.range 1).map fun _ => (List.range 1).map fun _ => true) := by decide

/-- CommandsLeaveOperands: a command outside both lists. -/
theorem witness_otherCommand :
    Instr.nop ∉ [Instr.gfLog, .gfExp, .maskScore, .maskSelect, .encode] ∧ Instr.nop ∉ [Instr.frameBuild, .encode] := by
  decide

end Sys2Proof.Tests
end

section
/-! SUPPORT. One equation per case of the environment's turn and of the sequencer's step, for any tables and any meaning
of the commands (20_memory.md R81; 70_reset_and_hazards.md R372). -/

namespace Sys2Proof.Machine

/-! ### The environment's turn -/

@[simp] theorem State.environmentTurn_of_pending_nil (P : Params) {s : State} (h : s.pending = []) :
    State.environmentTurn P s = s := by
  simp only [State.environmentTurn, h]

theorem State.environmentTurn_of_pending_cons (P : Params) {s : State} {a : Input} {rest : List Input}
    (h : s.pending = a :: rest) : State.environmentTurn P s = State.input P { s with pending := rest } a := by
  simp only [State.environmentTurn, h]

/-! ### The sequencer -/

section
variable (P : Params) (run : Instr → State → Host.Outcome State Fault Refusal) {s : State}

theorem sequencerStep_of_idle (h : s.seq = .idle) : sequencerStep P run s = .next (State.environmentTurn P s) := by
  simp only [sequencerStep, h]

theorem sequencerStep_of_waiting {n : Nat} (h : s.seq = .executing (n + 1)) :
    sequencerStep P run s = .next (State.environmentTurn P { s with seq := .executing n }) := by
  simp only [sequencerStep, h]

theorem sequencerStep_of_legal {i : Instr} (h : s.seq = .executing 0) (hd : decode s.cmd = .ok i) :
    sequencerStep P run s = run i s := by
  simp only [sequencerStep, h, hd]

theorem sequencerStep_of_illegal {c : Illegal} (h : s.seq = .executing 0) (hd : decode s.cmd = .error c) :
    sequencerStep P run s = .next s.rejectWord := by
  simp only [sequencerStep, h, hd]

end

/-! ### The step -/

theorem step_of_idle {s : State} (h : s.seq = .idle) : step s = .next (State.environmentTurn stdParams s) :=
  sequencerStep_of_idle stdParams exec h

theorem step_of_waiting {s : State} {n : Nat} (h : s.seq = .executing (n + 1)) :
    step s = .next (State.environmentTurn stdParams { s with seq := .executing n }) :=
  sequencerStep_of_waiting stdParams exec h

theorem step_of_legal {s : State} {i : Instr} (h : s.seq = .executing 0) (hd : decode s.cmd = .ok i) :
    step s = exec i s :=
  sequencerStep_of_legal stdParams exec h hd

theorem step_of_illegal {s : State} {c : Illegal} (h : s.seq = .executing 0) (hd : decode s.cmd = .error c) :
    step s = .next s.rejectWord :=
  sequencerStep_of_illegal stdParams exec h hd

/-- Settles O5: each clause is the sequencer's equation for its case, and the machine with the tables P is tied to the
default one by `execWith_stdParams` and `stepWith_stdParams`. -/
theorem stepRunsTheCommand : Obligations.StepRunsTheCommand := by
  unfold Obligations.StepRunsTheCommand
  refine ⟨fun s i hseq hd => ?runs, fun s hseq hp => ?idleQuiet, fun s a rest hseq hp => ?idleActs,
    fun s n a rest hseq hp => ?waitingActs, fun s n hseq hp => ?waitingQuiet, fun P s i hseq hd => ?runsWith,
    execWith_stdParams, stepWith_stdParams, fun P => ?resets⟩
  case runs => exact step_of_legal hseq hd
  case idleQuiet => rw [step_of_idle hseq, State.environmentTurn_of_pending_nil _ hp]
  case idleActs => rw [step_of_idle hseq, State.environmentTurn_of_pending_cons _ hp]
  case waitingActs =>
    rw [step_of_waiting hseq, State.environmentTurn_of_pending_cons (s := { s with seq := .executing n }) _ hp]
  case waitingQuiet =>
    rw [step_of_waiting hseq, State.environmentTurn_of_pending_nil (s := { s with seq := .executing n }) _ hp]
  case runsWith => exact sequencerStep_of_legal P (execWith P) hseq hd
  case resets => rfl

end Sys2Proof.Machine
end

section
/-! SUPPORT. What a command can do, said once: its single writes, ENCODE as a chain of them, and how it ends (10_state.md
R28; 46_session.md R292, R293; 60_exceptions.md R320). Every statement about all commands is drawn from these lemmas. -/

namespace Sys2Proof.Machine

/-! ### The single writes -/

/-- Command `i`, its checks passed in `s`, writes `t` (before completion). ENCODE writes by its sub-steps only. -/
inductive Writes : Instr → State → State → Prop
  | nop (s : State) : Writes .nop s s
  | gfLog (s : State) : Writes .gfLog s (gfLogEffect s)
  | gfExp (s : State) : Writes .gfExp s (gfExpEffect s)
  | rsGen {s : State} (hdeg : 1 ≤ s.genDegree ∧ s.genDegree ≤ 68) : Writes .rsGen s (rsGenEffect s)
  | rsEnc {s : State} (hgen : s.genValid = true) (hdst : s.encDest + s.encDegree ≤ 4096) : Writes .rsEnc s (rsEncEffect s)
  | streamBuild {s : State} (hcfg : s.cfgOk = true) (hfits : s.allocFits (s.entry stdParams).total = true) :
      Writes .streamBuild s (streamBuildEffect stdParams s)
  | frameBuild {s : State} (hcfg : s.cfgOk = true) (hnew : s.frameBuilt = false)
      (hfits : s.allocFits s.frameCharge = true) : Writes .frameBuild s (frameBuildEffect stdParams s)
  | place {s : State} (hcfg : s.cfgOk = true) (hframe : s.frameBuilt = true) (hstream : s.streamValid = true) :
      Writes .place s (placeEffect stdParams s)
  | maskApply (m : Nat) {s : State} (hcfg : s.cfgOk = true) (hframe : s.frameBuilt = true) :
      Writes (.maskApply m) s (maskApplyEffect stdParams m s)
  | maskScore {s : State} (hcfg : s.cfgOk = true) (hframe : s.frameBuilt = true) : Writes .maskScore s (maskScoreEffect s)
  | maskSelect {s : State} (hcfg : s.cfgOk = true) (hframe : s.frameBuilt = true) :
      Writes .maskSelect s (maskSelectEffect stdParams s)
  | formatEmbed (m : Nat) {s : State} (hcfg : s.cfgOk = true) (hframe : s.frameBuilt = true) :
      Writes (.formatEmbed m) s (formatEmbedEffect stdParams m s)
  | sessionBegin (s : State) : Writes .sessionBegin s (sessionBeginEffect s)

/-- ENCODE with no error (R292): its five sub-steps write one after another. -/
def EncodeWrites (s t : State) : Prop :=
  ∃ s1 s2 s3 s4, Writes .streamBuild s s1 ∧ Writes .frameBuild s1 s2 ∧ Writes .place s2 s3 ∧ Writes .maskSelect s3 s4 ∧
    Writes (.formatEmbed s4.bestId.toNat) s4 t

/-! ### How a command ends -/

/-- A guarded command whose check never answers "no error" as its error: its effect, or an error with nothing written. -/
theorem guarded_cases (check : Option ErrCode) (s t : State) (hne : check ≠ some .none) :
    (check = none ∧ guarded check s t = .done t) ∨ (∃ e, e ≠ .none ∧ guarded check s t = .failed e s) := by
  cases check with
  | none => exact .inl ⟨rfl, rfl⟩
  | some e => exact .inr ⟨e, fun h => hne (congrArg some h), rfl⟩

theorem rsGenCheck_ne_none (s : State) : rsGenCheck s ≠ some .none := by
  unfold rsGenCheck; split <;> simp

theorem rsEncCheck_ne_none (s : State) : rsEncCheck s ≠ some .none := by
  unfold rsEncCheck; repeat' split
  all_goals simp

theorem streamBuildCheck_ne_none (P : Params) (s : State) : streamBuildCheck P s ≠ some .none := by
  unfold streamBuildCheck; repeat' split
  all_goals simp

theorem frameBuildCheck_ne_none (s : State) : frameBuildCheck s ≠ some .none := by
  unfold frameBuildCheck; repeat' split
  all_goals simp

theorem placeCheck_ne_none (s : State) : placeCheck s ≠ some .none := by
  unfold placeCheck; repeat' split
  all_goals simp

theorem frameCheck_ne_none (s : State) : frameCheck s ≠ some .none := by
  unfold frameCheck; repeat' split
  all_goals simp

theorem encodeCheck_ne_none (s : State) : encodeCheck s ≠ some .none := by
  unfold encodeCheck; repeat' split
  all_goals simp

/-- STREAM_BUILD writes or raises an error. -/
theorem streamBuild_cases (s : State) :
    (∃ t, Writes .streamBuild s t ∧ streamBuild stdParams s = .done t) ∨
      (∃ e, e ≠ .none ∧ streamBuild stdParams s = .failed e s) := by
  refine (guarded_cases _ s _ (streamBuildCheck_ne_none stdParams s)).imp_left fun ⟨hc, hd⟩ => ?_
  obtain ⟨hcfg, hfits⟩ := streamBuildCheck_eq_none.mp hc
  exact ⟨_, .streamBuild hcfg hfits, hd⟩

/-- FRAME_BUILD writes or raises an error. -/
theorem frameBuild_cases (s : State) :
    (∃ t, Writes .frameBuild s t ∧ frameBuild stdParams s = .done t) ∨
      (∃ e, e ≠ .none ∧ frameBuild stdParams s = .failed e s) := by
  refine (guarded_cases _ s _ (frameBuildCheck_ne_none s)).imp_left fun ⟨hc, hd⟩ => ?_
  obtain ⟨hcfg, hnew, hfits⟩ := frameBuildCheck_eq_none.mp hc
  exact ⟨_, .frameBuild hcfg hnew hfits, hd⟩

/-- Once STREAM_BUILD and FRAME_BUILD have run, no later sub-step of ENCODE can raise an error (R293). -/
theorem encode_after_frame {s s1 s2 : State} (h1 : Writes .streamBuild s s1) (h2 : Writes .frameBuild s1 s2) :
    ∃ t, EncodeWrites s t ∧
      ((place stdParams s2).andThen fun t => (maskSelect stdParams t).andThen fun u =>
        formatEmbed stdParams u.bestId.toNat u) = .done t := by
  have hcfg : s2.cfgOk = true := by cases h2; assumption
  have hframe : s2.frameBuilt = true := by cases h2; rfl
  have hstream : s2.streamValid = true := by cases h1; cases h2; rfl
  obtain ⟨s3, hs3⟩ : ∃ s3, s3 = placeEffect stdParams s2 := ⟨_, rfl⟩
  obtain ⟨s4, hs4⟩ : ∃ s4, s4 = maskSelectEffect stdParams s3 := ⟨_, rfl⟩
  have hc3 : s3.cfgOk = true ∧ s3.frameBuilt = true := by rw [hs3]; exact ⟨hcfg, hframe⟩
  have hc4 : s4.cfgOk = true ∧ s4.frameBuilt = true := by rw [hs4]; exact hc3
  refine ⟨_, ⟨s1, s2, s3, s4, h1, h2, hs3 ▸ .place hcfg hframe hstream, hs4 ▸ .maskSelect hc3.1 hc3.2,
    .formatEmbed _ hc4.1 hc4.2⟩, ?_⟩
  rw [place, placeCheck_eq_none.mpr ⟨hcfg, hframe, hstream⟩, guarded_none, andThen_done, ← hs3, maskSelect,
    frameCheck_eq_none.mpr hc3, guarded_none, andThen_done, ← hs4, formatEmbed, frameCheck_eq_none.mpr hc4, guarded_none]

/-- What ENCODE can end in (R292, R293): all sub-steps, an error before the first, or an error after STREAM_BUILD. -/
theorem encodeAll_cases (s : State) :
    (∃ t, EncodeWrites s t ∧ encodeAll stdParams s = .done t) ∨
      (∃ e, e ≠ .none ∧ encodeAll stdParams s = .failed e s) ∨
      (∃ e u, e ≠ .none ∧ Writes .streamBuild s u ∧ encodeAll stdParams s = .failed e u) := by
  unfold encodeAll
  rcases guarded_cases _ s s (encodeCheck_ne_none s) with ⟨-, hg⟩ | ⟨e, he, hg⟩
  · rcases streamBuild_cases s with ⟨s1, h1, hs⟩ | ⟨e, he, hs⟩
    · rcases frameBuild_cases s1 with ⟨s2, h2, hf⟩ | ⟨e, he, hf⟩
      · obtain ⟨t, ht, hd⟩ := encode_after_frame h1 h2
        refine .inl ⟨t, ht, ?_⟩
        rw [hg, andThen_done, hs, andThen_done, hf, andThen_done]
        exact hd
      · exact .inr (.inr ⟨e, s1, he, h1, by simp only [hg, hs, hf, andThen_done, andThen_failed]⟩)
    · exact .inr (.inl ⟨e, he, by simp only [hg, hs, andThen_done, andThen_failed]⟩)
  · exact .inr (.inl ⟨e, he, by simp only [hg, andThen_failed]⟩)

/-- A guarded command, its passed check giving the write `hw`. -/
theorem guarded_writes {i : Instr} {check : Option ErrCode} {s t : State} (hne : check ≠ some .none)
    (hw : check = none → Writes i s t) :
    (∃ u, Writes i s u ∧ guarded check s t = .done u) ∨ (∃ e, e ≠ .none ∧ guarded check s t = .failed e s) :=
  (guarded_cases check s t hne).imp_left fun ⟨hc, hd⟩ => ⟨t, hw hc, hd⟩

/-- What a command other than ENCODE can end in: its write, or an error with nothing written (R320). -/
theorem runCommand_cases {i : Instr} (hi : i ≠ .encode) (s : State) :
    (∃ t, Writes i s t ∧ runCommand stdParams i s = .done t) ∨
      (∃ e, e ≠ .none ∧ runCommand stdParams i s = .failed e s) := by
  cases i with
  | nop => exact .inl ⟨_, .nop s, rfl⟩
  | gfLog => exact .inl ⟨_, .gfLog s, rfl⟩
  | gfExp => exact .inl ⟨_, .gfExp s, rfl⟩
  | rsGen => exact guarded_writes (rsGenCheck_ne_none s) fun hc => .rsGen (rsGenCheck_eq_none.mp hc)
  | rsEnc =>
    refine guarded_writes (rsEncCheck_ne_none s) fun hc => ?_
    obtain ⟨hgen, -, hdst⟩ := rsEncCheck_eq_none.mp hc
    exact .rsEnc hgen hdst
  | streamBuild => exact streamBuild_cases s
  | frameBuild => exact frameBuild_cases s
  | place =>
    refine guarded_writes (placeCheck_ne_none s) fun hc => ?_
    obtain ⟨hcfg, hframe, hstream⟩ := placeCheck_eq_none.mp hc
    exact .place hcfg hframe hstream
  | maskApply m =>
    exact guarded_writes (frameCheck_ne_none s) fun hc => (frameCheck_eq_none.mp hc).elim (.maskApply m)
  | maskScore => exact guarded_writes (frameCheck_ne_none s) fun hc => (frameCheck_eq_none.mp hc).elim .maskScore
  | maskSelect => exact guarded_writes (frameCheck_ne_none s) fun hc => (frameCheck_eq_none.mp hc).elim .maskSelect
  | formatEmbed m =>
    exact guarded_writes (frameCheck_ne_none s) fun hc => (frameCheck_eq_none.mp hc).elim (.formatEmbed m)
  | sessionBegin => exact .inl ⟨_, .sessionBegin s, rfl⟩
  | encode => exact absurd rfl hi

/-- A command answers a next state (R371). -/
theorem exec_safe (i : Instr) (s : State) : ∃ t, exec i s = .next t :=
  execWith_stdParams i s ▸ execWith_safe stdParams i s

/-- Everything a command can answer: its write completed, an error with nothing written, ENCODE completed, or ENCODE ended
by an error after STREAM_BUILD. -/
theorem exec_cases {i : Instr} {s t : State} (h : exec i s = .next t) :
    (∃ u, Writes i s u ∧ t = u.complete) ∨
      (∃ e, e ≠ .none ∧ t = s.raiseError e) ∨
      (i = .encode ∧ ∃ u, EncodeWrites s u ∧ t = u.complete) ∨
      (i = .encode ∧ ∃ e u, e ≠ .none ∧ Writes .streamBuild s u ∧ t = u.raiseError e) := by
  rw [← execWith_stdParams, execWith] at h
  have of_done {u : State} (hr : runCommand stdParams i s = .done u) : t = u.complete := by
    rw [hr, outcome_done] at h; exact (Host.Outcome.next.inj h).symm
  have of_failed {e : ErrCode} {u : State} (hr : runCommand stdParams i s = .failed e u) : t = u.raiseError e := by
    rw [hr, outcome_failed] at h; exact (Host.Outcome.next.inj h).symm
  by_cases hi : i = .encode
  · subst hi
    rcases encodeAll_cases s with ⟨u, hu, hr⟩ | ⟨e, he, hr⟩ | ⟨e, u, he, hu, hr⟩
    · exact .inr (.inr (.inl ⟨rfl, u, hu, of_done hr⟩))
    · exact .inr (.inl ⟨e, he, of_failed hr⟩)
    · exact .inr (.inr (.inr ⟨rfl, e, u, he, hu, of_failed hr⟩))
  · rcases runCommand_cases hi s with ⟨u, hu, hr⟩ | ⟨e, he, hr⟩
    · exact .inl ⟨u, hu, of_done hr⟩
    · exact .inr (.inl ⟨e, he, of_failed hr⟩)

/-- `j` is the command `i` or one of its sub-steps (R292). -/
def Instr.Runs (i j : Instr) : Prop :=
  j = i ∨ (i = .encode ∧ (j ∈ [Instr.streamBuild, .frameBuild, .place, .maskSelect] ∨ ∃ m, j = .formatEmbed m))

theorem Instr.Runs.eq_of_ne_encode {i j : Instr} (h : Instr.Runs i j) (hi : i ≠ .encode) : j = i :=
  h.resolve_right fun he => hi he.1

/-- A command keeps what each of its writes and each way of ending keeps. -/
theorem exec_keeps {p : State → Prop} {i : Instr} {s t : State}
    (hwrite : ∀ j a b, Instr.Runs i j → Writes j a b → p a → p b)
    (hcomplete : ∀ a, p a → p a.complete) (herror : ∀ a e, e ≠ .none → p a → p (a.raiseError e))
    (h : exec i s = .next t) (hs : p s) : p t := by
  rcases exec_cases h with ⟨u, hu, rfl⟩ | ⟨e, he, rfl⟩ | ⟨rfl, u, hu, rfl⟩ | ⟨rfl, e, u, he, hu, rfl⟩
  · exact hcomplete _ (hwrite _ _ _ (.inl rfl) hu hs)
  · exact herror _ _ he hs
  · have sub {j : Instr} {a b : State} (hj : j ∈ [Instr.streamBuild, .frameBuild, .place, .maskSelect])
        (hw : Writes j a b) (ha : p a) : p b := hwrite j a b (.inr ⟨rfl, .inl hj⟩) hw ha
    obtain ⟨s1, s2, s3, s4, h1, h2, h3, h4, h5⟩ := hu
    have hp4 : p s4 := sub (by simp) h4 (sub (by simp) h3 (sub (by simp) h2 (sub (by simp) h1 hs)))
    exact hcomplete _ (hwrite _ _ _ (.inr ⟨rfl, .inr ⟨_, rfl⟩⟩) h5 hp4)
  · exact herror _ _ he (hwrite _ _ _ (.inr ⟨rfl, .inl (by simp)⟩) hu hs)

end Sys2Proof.Machine
end

section
/-! SUPPORT. What commands do to RAM: which RAMs each writes, that the memory stays canonical, and that a footprint lists
RAM bytes only (10_state.md R38–R41; 20_memory.md R71, R72; 70_reset_and_hazards.md R363). -/

namespace Sys2Proof.Machine

/-! ### Runs of bytes and cell writes inside a RAM -/

theorem State.matrixBytes_lt {s : State} (h : s.cfgOk = true) : matrixBytes s.ver < 4096 :=
  Nat.lt_of_le_of_lt (matrixBytes_le (State.cfgOk_iff.mp h).2) (by decide)

theorem State.cellByte_lt_size {s : State} (h : s.cfgOk = true) {x y : Nat} (hx : x < width s.ver) (hy : y < width s.ver) :
    cellByte (stride s.ver) x y < 4096 :=
  (cellByte_lt hx hy).trans (State.matrixBytes_lt h)

/-- The writes all name cells of the current matrix. -/
def State.CellsInside (s : State) (ws : List CellWrite) : Prop := ∀ w ∈ ws, w.x < width s.ver ∧ w.y < width s.ver

theorem State.cellsInside_placeWrites (s : State) : s.CellsInside (s.placeWrites stdParams) := fun _ hw =>
  have ⟨hx, hy, _⟩ := placeWrites_inside stdParams s _ hw
  ⟨hx, hy⟩

theorem State.cellsInside_maskWrites (s : State) (m : Nat) : s.CellsInside (s.maskWrites stdParams m) := fun _ hw =>
  have ⟨hx, hy, _⟩ := mem_maskWrites.mp hw
  ⟨hx, hy⟩

theorem State.cellsInside_formatWrites {s : State} (h : s.cfgOk = true) (f : BitVec 15) :
    s.CellsInside (formatWrites (width s.ver) f) :=
  formatWrites_inside f (State.cfgOk_iff.mp h).1

theorem State.cellsInside_framePuts {s : State} (h : s.cfgOk = true) : s.CellsInside (framePuts stdParams s.ver) :=
  framePuts_inside (State.cfgOk_iff.mp h).1 (State.cfgOk_iff.mp h).2

theorem State.CellsInside.bitmapPuts {s : State} {ps : List CellWrite} (h : s.CellsInside ps) :
    s.CellsInside (bitmapPuts ps) := fun w hw => h w (List.mem_of_mem_filter hw)

theorem State.CellsInside.reservedPuts {s : State} {ps : List CellWrite} (h : s.CellsInside ps) :
    s.CellsInside (reservedPuts ps) := by
  intro w hw
  obtain ⟨p, hp, rfl⟩ := List.mem_map.mp hw
  exact h p hp

section CellWrites
variable {s : State} {ws : List CellWrite} {r : Ram} (hcfg : s.cfgOk = true) (hws : s.CellsInside ws)
include hcfg hws

theorem State.CellsInside.cellByte_lt (hr : r.size = 4096) : ∀ w ∈ ws, cellByte (stride s.ver) w.x w.y < r.size :=
  fun w hw => hr ▸ State.cellByte_lt_size hcfg (hws w hw).1 (hws w hw).2

theorem State.CellsInside.wf_storeCells {m : Memory} (hm : Memory.wf m) (hr : r.size = 4096) :
    Memory.wf (Memory.storeCells s.ramDraw r (stride s.ver) m ws) :=
  Memory.wf_storeCells hm (hws.cellByte_lt hcfg hr)

theorem State.CellsInside.byte_storeCells {m : Memory} {f k : Nat} {q : Ram} (hr : r.size = 4096) (hq : q ≠ r)
    (hk : k < q.size) :
    Memory.byte f (Memory.storeCells s.ramDraw r (stride s.ver) m ws) (q.addr k) = Memory.byte f m (q.addr k) :=
  Memory.byte_storeCells_other _ _ _ _ _ (hws.cellByte_lt hcfg hr) hk hq

end CellWrites

/-! ### The memory after each write -/

section MemoryAfter
variable (P : Params) (s : State)

theorem rsGenEffect_mem :
    (rsGenEffect s).mem = Memory.storeBytes s.mem (Ram.gen.addr 0) (genImage s.genDegree) := rfl
theorem rsEncEffect_mem : (rsEncEffect s).mem = Memory.storeBytes s.mem (Ram.stream.addr s.encDest) s.encoded := rfl
theorem streamBuildEffect_mem :
    (streamBuildEffect P s).mem =
      Memory.storeBytes (Memory.storeBytes s.mem (Ram.gen.addr 0) (genImage (s.entry P).eccWidth)) (Ram.stream.addr 0)
        (s.streamOut P) := rfl
theorem frameBuildEffect_mem : (frameBuildEffect P s).mem = s.framed P := by rw [frameBuildEffect]
theorem placeEffect_mem :
    (placeEffect P s).mem = Memory.storeCells s.ramDraw .bitmap (stride s.ver) s.mem (s.placeWrites P) := rfl
theorem maskApplyEffect_mem (m : Nat) :
    (maskApplyEffect P m s).mem = Memory.storeCells s.ramDraw .bitmap (stride s.ver) s.mem (s.maskWrites P m) := rfl
theorem maskSelectEffect_mem :
    (maskSelectEffect P s).mem =
      Memory.storeCells s.ramDraw .bitmap (stride s.ver) s.mem (s.maskWrites P (leastMin (s.maskScores P))) := rfl
theorem formatEmbedEffect_mem (m : Nat) :
    (formatEmbedEffect P m s).mem =
      Memory.storeCells s.ramDraw .bitmap (stride s.ver) s.mem
        (formatWrites (width s.ver) (P.formatWord s.level m)) := by
  rw [formatEmbedEffect, State.withCells]

end MemoryAfter

/-! ### The RAMs each command writes -/

/-- The RAMs a command can write (R153, R155, R181, R200, R230, R252, R261, R272, R292). -/
@[simp] def ramsWritten : Instr → List Ram
  | .nop | .gfLog | .gfExp | .maskScore | .sessionBegin => []
  | .rsGen => [.gen]
  | .rsEnc => [.stream]
  | .streamBuild => [.gen, .stream]
  | .frameBuild => [.bitmap, .reserved]
  | .place | .maskApply _ | .maskSelect | .formatEmbed _ => [.bitmap]
  | .encode => [.gen, .stream, .bitmap, .reserved]

theorem State.length_zeros_le {s : State} (hcfg : s.cfgOk = true) {r : Ram} (hr : r.size = 4096) :
    0 + (List.replicate (matrixBytes s.ver) (0 : Byte)).length ≤ r.size := by
  have := State.matrixBytes_lt hcfg
  rw [List.length_replicate, hr]; omega

/-- FRAME_BUILD leaves the other RAMs alone. -/
theorem State.byte_framed {s : State} (hcfg : s.cfgOk = true) {f k : Nat} {q : Ram} (hb : q ≠ .bitmap)
    (hr : q ≠ .reserved) (hk : k < q.size) : Memory.byte f (s.framed stdParams) (q.addr k) = Memory.byte f s.mem (q.addr k) := by
  have hps := State.cellsInside_framePuts hcfg
  unfold State.framed
  rw [hps.reservedPuts.byte_storeCells hcfg rfl hr hk, hps.bitmapPuts.byte_storeCells hcfg rfl hb hk,
    Memory.byte_storeBytes_other _ _ _ _ (State.length_zeros_le hcfg rfl) hk hr,
    Memory.byte_storeBytes_other _ _ _ _ (State.length_zeros_le hcfg rfl) hk hb]

theorem State.wf_framed {s : State} (hcfg : s.cfgOk = true) (hm : Memory.wf s.mem) : Memory.wf (s.framed stdParams) := by
  have hps := State.cellsInside_framePuts hcfg
  unfold State.framed
  have hbitmap := Memory.wf_storeBytes_ram (r := .bitmap) hm (State.length_zeros_le hcfg rfl)
  have hzeroed := Memory.wf_storeBytes_ram (r := .reserved) hbitmap (State.length_zeros_le hcfg rfl)
  exact hps.reservedPuts.wf_storeCells hcfg (hps.bitmapPuts.wf_storeCells hcfg hzeroed rfl) rfl

theorem State.length_genImage_le {s : State} (hdeg : s.genDegree ≤ 68) :
    0 + (genImage s.genDegree).length ≤ Ram.gen.size := by
  rw [length_genImage]; exact Nat.le_trans (by omega) (by decide : 69 ≤ Ram.gen.size)

theorem State.length_streamGen_le {s : State} (hcfg : s.cfgOk = true) :
    0 + (genImage (s.entry stdParams).eccWidth).length ≤ Ram.gen.size := by
  obtain ⟨-, -, hecc, -⟩ := State.entry_bounds hcfg
  rw [length_genImage]; exact Nat.le_trans (by omega) (by decide : 31 ≤ Ram.gen.size)

theorem State.length_streamOut_le {s : State} (hcfg : s.cfgOk = true) :
    0 + (s.streamOut stdParams).length ≤ Ram.stream.size := by
  obtain ⟨htotal, -⟩ := State.entry_bounds hcfg
  rw [length_streamOut]; exact Nat.le_trans (by omega) (by decide : 3706 ≤ Ram.stream.size)

/-- No command changes the draw that unwritten bytes read (R362). -/
theorem Writes.ramDraw_eq {i : Instr} {s t : State} (h : Writes i s t) : t.ramDraw = s.ramDraw := by
  cases h <;> rfl

/-- A write changes only the RAMs of its command. -/
theorem Writes.ram_of_not_mem {i : Instr} {s t : State} (h : Writes i s t) {r : Ram} (hr : r ∉ ramsWritten i) {k : Nat}
    (hk : k < r.size) : t.ram r k = s.ram r k := by
  unfold State.ram State.byteAt
  rw [h.ramDraw_eq]
  cases h with
  | nop | gfLog | gfExp | maskScore | sessionBegin => rfl
  | rsGen hdeg =>
    rw [rsGenEffect_mem, Memory.byte_storeBytes_other _ _ _ _ (State.length_genImage_le hdeg.2) hk (by simpa using hr)]
  | rsEnc hgen hdst =>
    rw [rsEncEffect_mem, Memory.byte_storeBytes_other _ _ _ _ (by rw [length_encoded]; exact hdst) hk (by simpa using hr)]
  | streamBuild hcfg hfits =>
    obtain ⟨hgen, hstream⟩ : r ≠ .gen ∧ r ≠ .stream := by simpa using hr
    rw [streamBuildEffect_mem, Memory.byte_storeBytes_other _ _ _ _ (State.length_streamOut_le hcfg) hk hstream,
      Memory.byte_storeBytes_other _ _ _ _ (State.length_streamGen_le hcfg) hk hgen]
  | frameBuild hcfg hnew hfits =>
    obtain ⟨hbitmap, hreserved⟩ : r ≠ .bitmap ∧ r ≠ .reserved := by simpa using hr
    rw [frameBuildEffect_mem, State.byte_framed hcfg hbitmap hreserved hk]
  | place hcfg hframe hstream =>
    rw [placeEffect_mem, s.cellsInside_placeWrites.byte_storeCells hcfg rfl (by simpa using hr) hk]
  | maskApply m hcfg hframe =>
    rw [maskApplyEffect_mem, (s.cellsInside_maskWrites m).byte_storeCells hcfg rfl (by simpa using hr) hk]
  | maskSelect hcfg hframe =>
    rw [maskSelectEffect_mem, (s.cellsInside_maskWrites _).byte_storeCells hcfg rfl (by simpa using hr) hk]
  | formatEmbed m hcfg hframe =>
    rw [formatEmbedEffect_mem,
      (State.cellsInside_formatWrites hcfg _).byte_storeCells hcfg rfl (by simpa using hr) hk]

/-- A write keeps the memory canonical. -/
theorem Writes.mem_wf {i : Instr} {s t : State} (h : Writes i s t) (hm : Memory.wf s.mem) : Memory.wf t.mem := by
  cases h with
  | nop | gfLog | gfExp | maskScore | sessionBegin => exact hm
  | rsGen hdeg =>
    rw [rsGenEffect_mem]
    exact Memory.wf_storeBytes_ram hm (State.length_genImage_le hdeg.2)
  | rsEnc hgen hdst =>
    rw [rsEncEffect_mem]
    exact Memory.wf_storeBytes_ram hm (by rw [length_encoded]; exact hdst)
  | streamBuild hcfg hfits =>
    rw [streamBuildEffect_mem]
    exact Memory.wf_storeBytes_ram (Memory.wf_storeBytes_ram hm (State.length_streamGen_le hcfg))
      (State.length_streamOut_le hcfg)
  | frameBuild hcfg hnew hfits =>
    rw [frameBuildEffect_mem]
    exact State.wf_framed hcfg hm
  | place hcfg hframe hstream =>
    rw [placeEffect_mem]
    exact s.cellsInside_placeWrites.wf_storeCells hcfg hm rfl
  | maskApply m hcfg hframe =>
    rw [maskApplyEffect_mem]
    exact (s.cellsInside_maskWrites m).wf_storeCells hcfg hm rfl
  | maskSelect hcfg hframe =>
    rw [maskSelectEffect_mem]
    exact (s.cellsInside_maskWrites _).wf_storeCells hcfg hm rfl
  | formatEmbed m hcfg hframe =>
    rw [formatEmbedEffect_mem]
    exact (State.cellsInside_formatWrites hcfg _).wf_storeCells hcfg hm rfl

/-- A sub-step writes no RAM that its command does not. -/
theorem Instr.Runs.ramsWritten_subset {i j : Instr} (h : Instr.Runs i j) : ramsWritten j ⊆ ramsWritten i := by
  rcases h with rfl | ⟨rfl, hj | ⟨m, rfl⟩⟩
  · exact List.Subset.refl _
  · revert j; decide
  · simp [ramsWritten]

/-- A command changes only its RAMs, however it ends. -/
theorem exec_ram_of_not_mem {i : Instr} {s t : State} (h : exec i s = .next t) {r : Ram} (hr : r ∉ ramsWritten i) {k : Nat}
    (hk : k < r.size) : t.ram r k = s.ram r k :=
  exec_keeps (p := fun a => a.ram r k = s.ram r k)
    (fun _ _ _ hj hw ha => (hw.ram_of_not_mem (fun hm => hr (hj.ramsWritten_subset hm)) hk).trans ha)
    (fun _ ha => ha) (fun _ _ _ ha => ha) h rfl

/-! ### Footprints -/

theorem mem_ifPasses {check : Option ErrCode} {as : List Nat} {a : Nat} :
    a ∈ ifPasses check as ↔ check = none ∧ a ∈ as := by
  cases check <;> simp [ifPasses]

theorem isRamAddr_of_mem_addrs {r : Ram} {start n a : Nat} (hn : start + n ≤ r.size) (h : a ∈ r.addrs start n) :
    isRamAddr a = true := by
  obtain ⟨k, hk, rfl⟩ := List.mem_map.mp h
  have := List.mem_range.mp hk
  exact isRamAddr_addr (by omega)

theorem isRamAddr_of_mem_cellAddrs {s : State} (hcfg : s.cfgOk = true) {r : Ram} (hr : r.size = 4096) {ws : List CellWrite}
    (hws : s.CellsInside ws) {a : Nat} (h : a ∈ cellAddrs r (stride s.ver) ws) : isRamAddr a = true := by
  obtain ⟨w, hw, rfl⟩ := List.mem_map.mp h
  exact isRamAddr_addr (hws.cellByte_lt hcfg hr w hw)

theorem isRamAddr_of_mem_streamFootprint {s : State} {a : Nat} (h : a ∈ streamFootprint stdParams s) :
    isRamAddr a = true := by
  obtain ⟨hc, ha⟩ := mem_ifPasses.mp h
  have hcfg := (streamBuildCheck_eq_none.mp hc).1
  rcases List.mem_append.mp ha with ha | ha
  · exact isRamAddr_of_mem_addrs (by simpa using State.length_streamGen_le hcfg) ha
  · exact isRamAddr_of_mem_addrs (by simpa [length_streamOut] using State.length_streamOut_le hcfg) ha

theorem isRamAddr_of_mem_matrixAddrs {s : State} (hcfg : s.cfgOk = true) {r : Ram} (hr : r.size = 4096) {a : Nat}
    (h : a ∈ r.addrs 0 (matrixBytes s.ver)) : isRamAddr a = true :=
  isRamAddr_of_mem_addrs (by have := State.matrixBytes_lt hcfg; omega) h

theorem isRamAddr_of_mem_frameFootprint {s : State} {a : Nat} (h : a ∈ frameFootprint s) : isRamAddr a = true := by
  obtain ⟨hc, ha⟩ := mem_ifPasses.mp h
  have hcfg := (frameBuildCheck_eq_none.mp hc).1
  exact (List.mem_append.mp ha).elim (isRamAddr_of_mem_matrixAddrs hcfg rfl) (isRamAddr_of_mem_matrixAddrs hcfg rfl)

/-- A footprint lists RAM bytes only. -/
theorem isRamAddr_of_mem_footprint {i : Instr} {s : State} {a : Nat} (h : a ∈ footprint stdParams i s) :
    isRamAddr a = true := by
  cases i with
  | nop | gfLog | gfExp | maskScore | sessionBegin => simp [footprint] at h
  | rsGen =>
    obtain ⟨hc, ha⟩ := mem_ifPasses.mp h
    exact isRamAddr_of_mem_addrs (by simpa using State.length_genImage_le (rsGenCheck_eq_none.mp hc).2) ha
  | rsEnc =>
    obtain ⟨hc, ha⟩ := mem_ifPasses.mp h
    obtain ⟨-, -, hdst⟩ := rsEncCheck_eq_none.mp hc
    exact isRamAddr_of_mem_addrs hdst ha
  | streamBuild => exact isRamAddr_of_mem_streamFootprint h
  | frameBuild => exact isRamAddr_of_mem_frameFootprint h
  | place =>
    obtain ⟨hc, ha⟩ := mem_ifPasses.mp h
    exact isRamAddr_of_mem_cellAddrs (placeCheck_eq_none.mp hc).1 rfl s.cellsInside_placeWrites ha
  | maskApply m =>
    obtain ⟨hc, ha⟩ := mem_ifPasses.mp h
    exact isRamAddr_of_mem_cellAddrs (frameCheck_eq_none.mp hc).1 rfl (s.cellsInside_maskWrites m) ha
  | maskSelect =>
    obtain ⟨hc, ha⟩ := mem_ifPasses.mp h
    exact isRamAddr_of_mem_matrixAddrs (frameCheck_eq_none.mp hc).1 rfl ha
  | formatEmbed m =>
    obtain ⟨hc, ha⟩ := mem_ifPasses.mp h
    have hcfg := (frameCheck_eq_none.mp hc).1
    exact isRamAddr_of_mem_cellAddrs hcfg rfl (State.cellsInside_formatWrites hcfg _) ha
  | encode =>
    obtain ⟨-, ha⟩ := mem_ifPasses.mp h
    rcases List.mem_append.mp ha with ha | ha
    · exact isRamAddr_of_mem_streamFootprint ha
    · cases hs : streamBuild stdParams s with
      | done t => exact isRamAddr_of_mem_frameFootprint (by simpa [hs] using ha)
      | failed e t => simp [hs] at ha

end Sys2Proof.Machine
end

section
/-! SUPPORT. The address map read backwards, and what one act of the outside world and one step can do, said once
(10_state.md R22, R25–R31, R37; 20_memory.md R70–R81; 60_exceptions.md R324; 70_reset_and_hazards.md R360–R372). -/

namespace Sys2Proof.Machine

/-! ### The address map -/

theorem region_of_wordAddr {a : Addr} {w : Nat} (h : wordAddr a = w) : region a = regionAt w := by
  rw [region, h]

/-- Below 0x01000 stand the registers (R71). -/
theorem regionAt_of_lt {w : Nat} (h : w < 0x01000) : regionAt w = regRegion w := if_pos h

/-- The word at byte i of a RAM selects that byte (R71). -/
theorem regionAt_addr {r : Ram} {i : Nat} (h : i < r.size) : regionAt (r.addr i) = .ram r i := by
  cases r <;> dsimp only [Ram.size] at h <;>
    simp (disch := omega) only [Ram.addr, Ram.base, regionAt, if_neg, if_pos, Nat.add_sub_cancel_left,
      Nat.mul_div_cancel_left]

/-- From 0x088 on no offset is a register's (R21). -/
theorem regRegion_of_ge {w : Nat} (h : 0x088 ≤ w) : regRegion w = .unmapped := by
  unfold regRegion
  split <;> simp at h ⊢

theorem eq_of_regRegion_eq_ctrl {w : Nat} (h : regRegion w = .reg .ctrl) : w = 0x004 := by
  revert h
  unfold regRegion
  split <;> simp

/-- CTRL stands at 0x004 only (R21, R71). -/
theorem wordAddr_of_region_ctrl {a : Addr} (h : region a = .reg .ctrl) : wordAddr a = 0x004 := by
  revert h
  unfold region regionAt
  split
  · exact eq_of_regRegion_eq_ctrl
  · repeat' split
    all_goals simp

theorem regRegion_ne_ram {w : Nat} {r : Ram} {i : Nat} : regRegion w ≠ .ram r i := by
  unfold regRegion
  split <;> simp

/-- A RAM window holds no more words than the RAM has bytes (R71). -/
theorem lt_size_of_region_ram {a : Addr} {r : Ram} {i : Nat} (h : region a = .ram r i) : i < r.size := by
  revert h
  unfold region regionAt
  split
  · exact fun h => absurd h regRegion_ne_ram
  · repeat' split
    all_goals simp only [reduceCtorEq, Region.ram.injEq, IsEmpty.forall_iff, and_imp]
    all_goals rintro rfl rfl; simp only [Ram.size]; omega

/-! ### One access -/

theorem State.busy_eq_false_iff {s : State} : s.busy = false ↔ s.seq = .idle := by
  unfold State.busy; cases s.seq <;> simp

section Access
variable (P : Params) {s : State} {a : Addr}

theorem State.busRead_of_idle (h : s.seq = .idle) : s.busRead P a = { s with readData := s.regionWord P (region a) } := by
  simp only [State.busRead, State.busy_eq_false_iff.mpr h, Bool.false_and, Bool.false_eq_true, if_false]

theorem State.busWrite_of_idle (h : s.seq = .idle) (v : Word) : s.busWrite P a v = s.writeIdle P (region a) v := by
  simp only [State.busWrite, State.busy_eq_false_iff.mpr h, Bool.false_eq_true, if_false]

/-- While BUSY = 0 a write at a register's offset is a write of that register. -/
theorem State.busWrite_reg (h : s.seq = .idle) {w : Nat} (ha : wordAddr a = w) {r : Reg} (hr : regionAt w = .reg r)
    (v : Word) : s.busWrite P a v = s.writeReg P r v := by
  rw [State.busWrite_of_idle P h, region_of_wordAddr ha, hr, State.writeIdle]

/-- CTRL takes a write busy or not (R25). -/
theorem State.busWrite_ctrl (ha : wordAddr a = 0x004) (v : Word) : s.busWrite P a v = s.writeCtrl P v := by
  rw [State.busWrite, region_of_wordAddr ha]
  exact ite_self _

/-- STATUS takes a write busy or not (R26). -/
theorem State.busWrite_status (ha : wordAddr a = 0x008) (v : Word) : s.busWrite P a v = s.writeStatus v := by
  rw [State.busWrite, region_of_wordAddr ha]
  exact ite_self _

theorem State.writeCtrl_srst {v : Word} (hv : v.getLsbD 0 = true) : s.writeCtrl P v = s.softReset P := if_pos hv

theorem State.writeCfg_of_locked (h : s.cfgLocked = true) (v : Word) : s.writeCfg v = s.noteError .cfgLocked := if_pos h

theorem State.writeCfg_of_unlocked (h : s.cfgLocked = false) (v : Word) :
    s.writeCfg v = { s with version := v.extractLsb' 0 6, eccLvl := v.extractLsb' 8 2 } := by
  rw [State.writeCfg, h, if_neg Bool.false_ne_true]

theorem State.cfgLocked_iff : s.cfgLocked = true ↔ s.frameBuilt = true ∨ s.streamValid = true := Bool.or_eq_true_iff

end Access

/-! ### One act of the outside world -/

/-- Every change one act of the outside world can make, with what must hold for it. -/
inductive ActsTo : State → Input → State → Prop
  /-- a read changes the word read and, while BUSY, the draw counter (R22 (e), R366) -/
  | read {s : State} (a : Addr) (v : Word) {d : Nat} (hd : s.draws ≤ d) :
      ActsTo s (.read a) { s with readData := v, draws := d }
  /-- SRST to CTRL (R25) -/
  | softReset (s : State) {a : Addr} {v : Word} (ha : wordAddr a = 0x004) (hv : v.getLsbD 0 = true) :
      ActsTo s (.write a v) (s.softReset stdParams)
  /-- the interrupt enables (R25) -/
  | enables (s : State) (a : Addr) (v : Word) (ieDone ieErr : Bool) :
      ActsTo s (.write a v) { s with ieDone := ieDone, ieErr := ieErr }
  /-- write 1 to clear (R26) -/
  | status (s : State) (a : Addr) (v : Word) : ActsTo s (.write a v) (s.writeStatus v)
  /-- acceptance of a command word (R28) -/
  | accept {s : State} (a : Addr) (v : Word) (hidle : s.busy = false) : ActsTo s (.write a v) (s.accept v)
  /-- CFG outside a session (R29, R30) -/
  | config {s : State} (a : Addr) (v : Word) (hlock : s.cfgLocked = false) (version : BitVec 6) (eccLvl : BitVec 2) :
      ActsTo s (.write a v) { s with version := version, eccLvl := eccLvl }
  /-- the operand registers and ARENA_LIMIT (R23, R31, R37), or nothing at all (R22 (b), R77, R78) -/
  | operands (s : State) (a : Addr) (v : Word) (plen : BitVec 12) (arg0 arg1 arg2 arenaLimit : Word) :
      ActsTo s (.write a v) { s with plen := plen, arg0 := arg0, arg1 := arg1, arg2 := arg2, arenaLimit := arenaLimit }
  /-- a dropped write (R324) -/
  | dropped (s : State) (a : Addr) (v : Word) {e : ErrCode} (he : e ≠ .none) : ActsTo s (.write a v) (s.noteError e)
  /-- a byte of PAYLOAD or STREAM (R79) -/
  | storeData (s : State) (a : Addr) (v : Word) {r : Ram} (hr : r = .payload ∨ r = .stream) {i : Nat} (hi : i < r.size)
      (b : Byte) : ActsTo s (.write a v) { s with mem := Memory.store s.mem (r.addr i) b }
  /-- a byte of BITMAP or RESERVED (R79) -/
  | storeMatrix (s : State) (a : Addr) (v : Word) {r : Ram} (hr : r = .bitmap ∨ r = .reserved) {i : Nat} (hi : i < r.size)
      (b : Byte) : ActsTo s (.write a v) { s.dropSelection with mem := Memory.store s.mem (r.addr i) b }
  /-- power-on reset (R360) -/
  | powerOn (s : State) : ActsTo s .powerOn s.powerOnReset

theorem ActsTo.nothing (s : State) (a : Addr) (v : Word) : ActsTo s (.write a v) s :=
  .operands s a v s.plen s.arg0 s.arg1 s.arg2 s.arenaLimit

theorem actsTo_writeCtrl (s : State) {a : Addr} (ha : wordAddr a = 0x004) (v : Word) :
    ActsTo s (.write a v) (s.writeCtrl stdParams v) := by
  unfold State.writeCtrl
  split
  · next hv => exact .softReset s ha hv
  · exact .enables s a v _ _

theorem actsTo_writeCfg (s : State) (a : Addr) (v : Word) : ActsTo s (.write a v) (s.writeCfg v) := by
  unfold State.writeCfg
  split
  · exact .dropped s a v (by decide)
  · next hlock => exact .config a v (Bool.eq_false_of_not_eq_true hlock) _ _

/-- A write to a register while BUSY = 0. -/
theorem actsTo_writeReg {s : State} (hidle : s.busy = false) {a : Addr} {r : Reg} (hctrl : r = .ctrl → wordAddr a = 0x004)
    (v : Word) : ActsTo s (.write a v) (s.writeReg stdParams r v) := by
  cases r with
  | ctrl => exact actsTo_writeCtrl s (hctrl rfl) v
  | status => exact .status s a v
  | cmd => exact .accept a v hidle
  | cfg => exact actsTo_writeCfg s a v
  | plen => exact .operands s a v _ s.arg0 s.arg1 s.arg2 s.arenaLimit
  | arg0 => exact .operands s a v s.plen v s.arg1 s.arg2 s.arenaLimit
  | arg1 => exact .operands s a v s.plen s.arg0 v s.arg2 s.arenaLimit
  | arg2 => exact .operands s a v s.plen s.arg0 s.arg1 v s.arenaLimit
  | arenaLimit => exact .operands s a v s.plen s.arg0 s.arg1 s.arg2 v
  | id | result | errcode | cap | total | blk | geom | usedLen | best | arenaUsed => exact .nothing s a v
  | pen1 | pen2 | pen3 | pen4 | score _ | genLen | dark => exact .nothing s a v

/-- A write to a RAM byte while BUSY = 0; GEN ignores it (R78). -/
theorem actsTo_writeRam (s : State) (a : Addr) {r : Ram} {i : Nat} (hi : i < r.size) (v : Word) :
    ActsTo s (.write a v) (s.writeRam r i v) := by
  cases r with
  | gen => exact .nothing s a v
  | payload => exact .storeData s a v (.inl rfl) hi _
  | stream => exact .storeData s a v (.inr rfl) hi _
  | bitmap => exact .storeMatrix s a v (.inl rfl) hi _
  | reserved => exact .storeMatrix s a v (.inr rfl) hi _

/-- A write while BUSY = 0. -/
theorem actsTo_writeIdle {s : State} (hidle : s.busy = false) (a : Addr) (v : Word) :
    ActsTo s (.write a v) (s.writeIdle stdParams (region a) v) := by
  cases hg : region a with
  | reg r => exact actsTo_writeReg hidle (fun hr => wordAddr_of_region_ctrl (hr ▸ hg)) v
  | ram r i => exact actsTo_writeRam s a (lt_size_of_region_ram hg) v
  | logRom _ | expRom _ | unmapped => exact .nothing s a v

/-- While BUSY = 1 only CTRL and STATUS take a write (R22 (d), R324). -/
theorem State.writeBusy_of_ne (P : Params) (s : State) {g : Region} (hctrl : g ≠ .reg .ctrl) (hstatus : g ≠ .reg .status)
    (v : Word) : s.writeBusy P g v = s.noteError .busyWrite := by
  cases g with
  | reg r => cases r <;> simp_all [State.writeBusy]
  | logRom _ | expRom _ | ram _ _ | unmapped => rfl

/-- A write while BUSY = 1. -/
theorem actsTo_writeBusy (s : State) (a : Addr) (v : Word) :
    ActsTo s (.write a v) (s.writeBusy stdParams (region a) v) := by
  by_cases hctrl : region a = .reg .ctrl
  · rw [hctrl]
    exact actsTo_writeCtrl s (wordAddr_of_region_ctrl hctrl) v
  · by_cases hstatus : region a = .reg .status
    · rw [hstatus]
      exact .status s a v
    · rw [State.writeBusy_of_ne _ s hctrl hstatus]
      exact .dropped s a v (by decide)

/-- An act of the outside world makes one of the listed changes. -/
theorem actsTo_input (s : State) (a : Input) : ActsTo s a (State.input stdParams s a) := by
  cases a with
  | read a =>
    simp only [State.input, State.busRead]
    split
    · exact .read a _ (Nat.le_succ _)
    · exact .read a _ (Nat.le_refl _)
  | write a v =>
    simp only [State.input, State.busWrite]
    cases hb : s.busy with
    | true => exact actsTo_writeBusy s a v
    | false => exact actsTo_writeIdle hb a v
  | powerOn => exact .powerOn s

/-- A host write of a RAM byte leaves the bytes of every other RAM. -/
theorem Memory.byte_store_ram_other (f : Nat) (m : Memory) {r q : Ram} {i k : Nat} (hi : i < r.size) (hk : k < q.size)
    (h : q ≠ r) (b : Byte) : Memory.byte f (Memory.store m (r.addr i) b) (q.addr k) = Memory.byte f m (q.addr k) :=
  Memory.byte_store_ne f m b (Ram.addr_ne_of_ne hk hi h)

/-- A soft reset sets every register to its reset value (R361). -/
theorem State.softReset_eq_resetOver (s : State) : ∃ m fill d, s.softReset stdParams = s.resetOver m fill d := by
  unfold State.softReset
  split <;> exact ⟨_, _, _, rfl⟩

/-- The act is a reset: a write of SRST = 1 to CTRL, or power-on (R25, R360). -/
def Input.IsReset (i : Input) : Prop :=
  (∃ a v, i = .write a v ∧ wordAddr a = 0x004 ∧ v.getLsbD 0 = true) ∨ i = .powerOn

/-- A reset sets every register to its reset value (R361). -/
theorem State.input_of_isReset (s : State) {i : Input} (h : i.IsReset) :
    ∃ m fill d, State.input stdParams s i = s.resetOver m fill d := by
  rcases h with ⟨a, v, rfl, ha, hv⟩ | rfl
  · rw [State.input, State.busWrite_ctrl _ ha, State.writeCtrl_srst _ hv]
    exact s.softReset_eq_resetOver
  · exact ⟨_, _, _, rfl⟩

/-- A write to STATUS changes DONE, ERR and ERRCODE only (R26). -/
theorem State.writeStatus_keeps (s : State) (v : Word) :
    ∃ done err errCode, s.writeStatus v = { s with done := done, err := err, errCode := errCode } := by
  unfold State.writeStatus
  dsimp only
  split <;> split <;> exact ⟨_, _, _, rfl⟩

/-! ### One step -/

/-- The state before the environment's turn: a step of LATENCY taken, BUSY kept, the oldest act drawn. -/
def State.turned (s : State) (q : Sequencer) (rest : List Input) : State := { s with seq := q, pending := rest }

theorem environmentTurn_cases (s : State) :
    (s.pending = [] ∧ State.environmentTurn stdParams s = s) ∨
      (∃ a rest, s.pending = a :: rest ∧
        State.environmentTurn stdParams s = State.input stdParams { s with pending := rest } a) := by
  cases hp : s.pending with
  | nil => exact .inl ⟨rfl, State.environmentTurn_of_pending_nil _ hp⟩
  | cons a rest => exact .inr ⟨a, rest, rfl, State.environmentTurn_of_pending_cons _ hp⟩

/-- A step answers a next state (R371). -/
theorem step_safe (s : State) : ∃ t, step s = .next t := stepWith_stdParams s ▸ stepWith_safe stdParams s

/-- Everything a step can do (R81, R103, R372): the accepted command, the rejection of an illegal word, or the
environment's turn, in which BUSY stands and at most the oldest pending act takes place. -/
theorem step_cases {s t : State} (h : step s = .next t) :
    (∃ i, s.seq = .executing 0 ∧ decode s.cmd = .ok i ∧ exec i s = .next t) ∨
      (s.seq = .executing 0 ∧ t = s.rejectWord) ∨
      (s.seq ≠ .executing 0 ∧ ∃ q, (q = .idle ↔ s.seq = .idle) ∧
        ((s.pending = [] ∧ t = s.turned q []) ∨
          ∃ a rest, s.pending = a :: rest ∧ t = State.input stdParams (s.turned q rest) a)) := by
  have turn {u : State} (q : Sequencer) (hu : u = { s with seq := q }) (ht : State.environmentTurn stdParams u = t) :
      (s.pending = [] ∧ t = s.turned q []) ∨
        ∃ a rest, s.pending = a :: rest ∧ t = State.input stdParams (s.turned q rest) a := by
    subst hu ht
    rcases environmentTurn_cases { s with seq := q } with ⟨hp, he⟩ | ⟨a, rest, hp, ha⟩
    · refine .inl ⟨hp, he.trans ?_⟩
      rw [State.turned, ← show s.pending = [] from hp]
    · exact .inr ⟨a, rest, hp, ha⟩
  rcases hseq : s.seq with _ | _ | n
  · rw [step_of_idle hseq, Host.Outcome.next.injEq] at h
    exact .inr (.inr ⟨by simp, .idle, by simp, turn .idle (by rw [← hseq]) h⟩)
  · cases hd : decode s.cmd with
    | ok i => exact .inl ⟨i, rfl, rfl, by rw [← h, step_of_legal hseq hd]⟩
    | error c => exact .inr (.inl ⟨rfl, by rw [step_of_illegal hseq hd, Host.Outcome.next.injEq] at h; exact h.symm⟩)
  · rw [step_of_waiting hseq, Host.Outcome.next.injEq] at h
    exact .inr (.inr ⟨by simp, .executing n, by simp, turn (.executing n) rfl h⟩)

/-- A step keeps what its commands, its errors, the passing of LATENCY and the acts of the outside world keep. -/
theorem step_keeps {p : State → Prop} {s t : State} (hwrite : ∀ i a b, Writes i a b → p a → p b)
    (hcomplete : ∀ a, p a → p a.complete) (herror : ∀ a e, e ≠ .none → p a → p (a.raiseError e))
    (hturned : ∀ a q rest, (q = .idle ↔ a.seq = .idle) → p a → p (a.turned q rest))
    (hact : ∀ a i b, ActsTo a i b → p a → p b) (h : step s = .next t) (hs : p s) : p t := by
  rcases step_cases h with ⟨i, -, -, hx⟩ | ⟨-, rfl⟩ | ⟨-, q, hq, ⟨-, rfl⟩ | ⟨a, rest, -, rfl⟩⟩
  · exact exec_keeps (fun j a b _ => hwrite j a b) hcomplete herror hx hs
  · exact herror s .badCmd (by decide) hs
  · exact hturned s q [] hq hs
  · exact hact _ a _ (actsTo_input _ a) (hturned s q rest hq hs)

end Sys2Proof.Machine
end

section
/-! SUPPORT. The machine invariant through every step (10_state.md R27–R35; 44_place.md R230; 70_reset_and_hazards.md R371). -/

namespace Sys2Proof.Machine

/-! ### Commands -/

theorem State.encDegree_rsGenEffect {s : State} (h : s.genDegree ≤ 68) : (rsGenEffect s).encDegree = s.genDegree :=
  Nat.mod_eq_of_lt (by omega)

theorem State.encDegree_streamBuildEffect {s : State} (h : s.cfgOk = true) :
    (streamBuildEffect stdParams s).encDegree = (s.entry stdParams).eccWidth := by
  obtain ⟨-, -, hecc, -⟩ := State.entry_bounds h
  exact Nat.mod_eq_of_lt (by omega)

theorem State.embedsWinner_iff {s : State} {m : Nat} :
    s.embedsWinner m = true ↔ s.selected = true ∧ s.bestValid = true ∧ m = s.bestId.toNat := by
  simp [State.embedsWinner, and_assoc]

/-- Only the named flags and registers matter to the invariant, so a write says which of them it moves. -/
theorem Writes.inv {i : Instr} {s t : State} (hw : Writes i s t) (h : s.Inv) : t.Inv := by
  have hmem := hw.mem_wf h.mem_wf
  cases hw with
  | nop => exact h
  | gfLog => exact { h with mem_wf := hmem }
  | gfExp => exact { h with mem_wf := hmem }
  | maskScore hcfg hframe => exact { h with mem_wf := hmem }
  | rsEnc hgen hdst => exact { h with mem_wf := hmem }
  | rsGen hdeg =>
    exact { h with
      mem_wf := hmem
      stream_gen := fun _ => rfl
      gen_degree := fun _ => State.encDegree_rsGenEffect hdeg.2 ▸ hdeg }
  | streamBuild hcfg hfits =>
    obtain ⟨-, hecc7, hecc30, -⟩ := State.entry_bounds hcfg
    exact { h with
      mem_wf := hmem
      locked_cfg := fun _ => hcfg
      stream_gen := fun _ => rfl
      gen_degree := fun _ => State.encDegree_streamBuildEffect hcfg ▸ (by omega)
      placed_built := fun hp => ⟨(h.placed_built hp).1, rfl⟩
      truncated_stream := fun _ => rfl }
  | frameBuild hcfg hnew hfits =>
    exact { h with
      mem_wf := hmem
      locked_cfg := fun _ => hcfg
      placed_built := fun hp => ⟨rfl, (h.placed_built hp).2⟩
      best_built := fun _ => rfl
      selected_best := nofun
      symbol_selected := nofun }
  | place hcfg hframe hstream =>
    exact { h with
      mem_wf := hmem
      placed_built := fun _ => ⟨hframe, hstream⟩
      selected_best := nofun
      symbol_selected := nofun }
  | maskApply m hcfg hframe => exact { h with mem_wf := hmem, selected_best := nofun, symbol_selected := nofun }
  | maskSelect hcfg hframe =>
    exact { h with
      mem_wf := hmem
      best_built := fun _ => hframe
      best_zero := nofun
      selected_best := fun _ => rfl
      symbol_selected := nofun }
  | formatEmbed m hcfg hframe =>
    exact { h with mem_wf := hmem, symbol_selected := fun hw => (State.embedsWinner_iff.mp hw).1 }
  | sessionBegin =>
    exact { h with
      locked_cfg := nofun
      stream_gen := nofun
      gen_degree := nofun
      placed_built := nofun
      best_built := nofun
      best_zero := fun _ => rfl
      selected_best := nofun
      symbol_selected := nofun
      truncated_stream := nofun }

theorem State.Inv.complete {s : State} (h : s.Inv) : s.complete.Inv := { h with busy_not_done := nofun }

theorem State.Inv.noteError_errCode_ne_none {s : State} {e : ErrCode} (h : s.Inv) (he : e ≠ .none) :
    (s.noteError e).errCode ≠ .none := by
  rw [State.noteError_errCode]
  split
  · next herr => exact fun hc => by simp [h.err_code.mpr hc] at herr
  · exact he

theorem State.Inv.noteError {s : State} {e : ErrCode} (h : s.Inv) (he : e ≠ .none) : (s.noteError e).Inv :=
  { h with err_code := iff_of_false nofun (h.noteError_errCode_ne_none he) }

theorem State.Inv.raiseError {s : State} {e : ErrCode} (h : s.Inv) (he : e ≠ .none) : (s.raiseError e).Inv :=
  { h.noteError he with busy_not_done := nofun }

/-! ### The outside world -/

theorem State.Inv.turned {s : State} (h : s.Inv) {q : Sequencer} (hq : q = .idle ↔ s.seq = .idle) (rest : List Input) :
    (s.turned q rest).Inv := by
  have hbusy : (s.turned q rest).busy = s.busy := by
    rw [Bool.eq_iff_iff, ← Bool.not_eq_false, ← Bool.not_eq_false, State.busy_eq_false_iff, State.busy_eq_false_iff]
    exact not_congr hq
  exact { h with busy_not_done := fun hb => h.busy_not_done (hbusy ▸ hb) }

/-- The registers of a reset over a canonical memory meet the invariant. -/
theorem State.inv_resetOver (s : State) {m : Memory} {fill d : Nat} (hm : Memory.wf m) (hd : fill < d) :
    (s.resetOver m fill d).Inv where
  mem_wf := hm
  err_code := iff_of_true rfl rfl
  busy_not_done := nofun
  locked_cfg := nofun
  stream_gen := nofun
  gen_degree := nofun
  placed_built := nofun
  best_built := nofun
  best_zero := fun _ => rfl
  selected_best := nofun
  symbol_selected := nofun
  truncated_stream := nofun
  draws_fresh := hd

theorem State.isRamAddr_of_mem_abortFootprint {s : State} {a : Nat} (h : a ∈ s.abortFootprint stdParams) :
    isRamAddr a = true := by
  revert h
  unfold State.abortFootprint
  split
  · simp
  · split
    · exact isRamAddr_of_mem_footprint
    · simp

theorem State.Inv.softReset {s : State} (h : s.Inv) : (s.softReset stdParams).Inv := by
  unfold State.softReset
  split
  · exact s.inv_resetOver h.mem_wf h.draws_fresh
  · exact s.inv_resetOver (Memory.wf_forget h.mem_wf fun _ => State.isRamAddr_of_mem_abortFootprint)
      (Nat.lt_succ_of_lt h.draws_fresh)

theorem State.Inv.clearDone {s : State} (h : s.Inv) : s.clearDone.Inv := { h with busy_not_done := fun _ => rfl }

theorem State.Inv.clearError {s : State} (h : s.Inv) : s.clearError.Inv := { h with err_code := iff_of_true rfl rfl }

theorem State.Inv.writeStatus {s : State} (h : s.Inv) (v : Word) : (s.writeStatus v).Inv := by
  have hdone : (if v.getLsbD 1 then s.clearDone else s).Inv := by
    split
    · exact h.clearDone
    · exact h
  unfold State.writeStatus
  dsimp only
  split
  · exact hdone.clearError
  · exact hdone

theorem ActsTo.inv {s t : State} {a : Input} (ha : ActsTo s a t) (h : s.Inv) : t.Inv := by
  cases ha with
  | read a v hd => exact { h with draws_fresh := Nat.lt_of_lt_of_le h.draws_fresh hd }
  | softReset ha hv => exact h.softReset
  | enables => exact { h with mem_wf := h.mem_wf }
  | status a v => exact h.writeStatus v
  | accept a v hidle => exact { h with busy_not_done := fun _ => rfl }
  | config a v hlock version eccLvl =>
    exact { h with locked_cfg := fun hl => absurd (show s.cfgLocked = true from hl) (by simp [hlock]) }
  | operands => exact { h with mem_wf := h.mem_wf }
  | dropped a v he => exact h.noteError he
  | storeData a v hr hi b => exact { h with mem_wf := Memory.wf_store h.mem_wf (isRamAddr_addr hi) }
  | storeMatrix a v hr hi b =>
    exact { h with
      mem_wf := Memory.wf_store h.mem_wf (isRamAddr_addr hi)
      selected_best := nofun
      symbol_selected := nofun }
  | powerOn => exact s.inv_resetOver Memory.wf_nil (Nat.lt_succ_self _)

/-- Settles O9: every step answers, and every write, error, turn and act keeps each clause of the invariant. -/
theorem everyStepKeepsInv : Obligations.EveryStepKeepsInv := by
  unfold Obligations.EveryStepKeepsInv
  intro s h
  obtain ⟨t, ht⟩ := step_safe s
  exact ⟨t, ht, step_keeps (fun _ _ _ hw => hw.inv) (fun _ ha => ha.complete) (fun _ _ he ha => ha.raiseError he)
    (fun _ _ rest hq ha => ha.turned hq rest) (fun _ _ _ hact => hact.inv) ht h⟩

end Sys2Proof.Machine
end

section
/-! SUPPORT. GEN RAM holds the generator through every step (10_state.md R40; 20_memory.md R78; 41_rs.md R151, R153). -/

namespace Sys2Proof.Machine

/-- A state with the same GEN_LEN and the same generator bytes, its generator valid only if it was before. -/
theorem State.GenHolds.congr {s t : State} (h : s.GenHolds) (hvalid : t.genValid = true → s.genValid = true)
    (hlen : t.genLen = s.genLen) (hram : ∀ k < Ram.gen.size, t.ram .gen k = s.ram .gen k) : t.GenHolds := by
  intro hv
  obtain ⟨hlo, hhi, hbytes⟩ := h (hvalid hv)
  have hdeg : t.encDegree = s.encDegree := congrArg BitVec.toNat hlen
  rw [hdeg]
  refine ⟨hlo, hhi, fun k hk => ?_⟩
  rw [hram k (Nat.lt_of_le_of_lt (hk.trans hhi) (by decide)), hbytes k hk]

/-- A generator image just written to GEN RAM reads back (R151). -/
theorem Memory.byte_genImage (f : Nat) (m : Memory) {e k : Nat} (hk : k ≤ e) :
    Memory.byte f (Memory.storeBytes m (Ram.gen.addr 0) (genImage e)) (Ram.gen.addr k) = (genImage e).getD k 0 := by
  rw [Memory.byte_storeBytes_ram, if_pos ⟨Nat.zero_le k, by rw [length_genImage]; omega⟩, Nat.sub_zero]

theorem State.genHolds_rsGenEffect {s : State} (hdeg : 1 ≤ s.genDegree ∧ s.genDegree ≤ 68) : (rsGenEffect s).GenHolds := by
  intro _
  rw [State.encDegree_rsGenEffect hdeg.2]
  exact ⟨hdeg.1, hdeg.2, fun k hk => Memory.byte_genImage _ _ hk⟩

theorem State.genHolds_streamBuildEffect {s : State} (hcfg : s.cfgOk = true) : (streamBuildEffect stdParams s).GenHolds := by
  obtain ⟨-, hecc7, hecc30, -⟩ := State.entry_bounds hcfg
  intro _
  rw [State.encDegree_streamBuildEffect hcfg]
  refine ⟨by omega, by omega, fun k hk => ?_⟩
  unfold State.ram State.byteAt
  rw [streamBuildEffect_mem,
    Memory.byte_storeBytes_other (q := .gen) _ _ _ _ (State.length_streamOut_le hcfg)
      (Nat.lt_of_le_of_lt (hk.trans hecc30) (by decide)) (by decide),
    Memory.byte_genImage _ _ hk]

/-- Only RS_GEN and STREAM_BUILD write GEN RAM, and they write a generator. -/
theorem Writes.genHolds {i : Instr} {s t : State} (hw : Writes i s t) (h : s.GenHolds) : t.GenHolds := by
  have hram (hr : Ram.gen ∉ ramsWritten i) : ∀ k < Ram.gen.size, t.ram .gen k = s.ram .gen k :=
    fun _ hk => hw.ram_of_not_mem hr hk
  cases hw with
  | rsGen hdeg => exact State.genHolds_rsGenEffect hdeg
  | streamBuild hcfg hfits => exact State.genHolds_streamBuildEffect hcfg
  | sessionBegin => exact nofun
  | nop | gfLog | gfExp | rsEnc | maskScore => exact h.congr id rfl (hram (by simp))
  | frameBuild | place | maskApply | maskSelect | formatEmbed => exact h.congr id rfl (hram (by simp))

/-- The host cannot alter GEN RAM (R78); a reset clears GEN_VALID. -/
theorem ActsTo.genHolds {s t : State} {a : Input} (ha : ActsTo s a t) (h : s.GenHolds) : t.GenHolds := by
  cases ha with
  | softReset ha hv =>
    obtain ⟨m, fill, d, ht⟩ := s.softReset_eq_resetOver
    rw [ht]
    exact nofun
  | powerOn => exact nofun
  | status a v =>
    obtain ⟨done, err, errCode, ht⟩ := s.writeStatus_keeps v
    rw [ht]
    exact h
  | read | enables | accept | config | operands | dropped => exact h
  | storeData a v hr hi b =>
    exact h.congr id rfl fun k hk => Memory.byte_store_ram_other _ _ hi hk (by rcases hr with rfl | rfl <;> decide) b
  | storeMatrix a v hr hi b =>
    exact h.congr id rfl fun k hk => Memory.byte_store_ram_other _ _ hi hk (by rcases hr with rfl | rfl <;> decide) b

/-- Settles O10: only RS_GEN and STREAM_BUILD write GEN RAM, a generator of degree GEN_LEN each time. -/
theorem everyStepKeepsGenerator : Obligations.EveryStepKeepsGenerator := by
  unfold Obligations.EveryStepKeepsGenerator
  intro s t h ht
  exact step_keeps (fun _ _ _ hw => hw.genHolds) (fun _ ha => ha) (fun _ _ _ ha => ha) (fun _ _ _ _ ha => ha)
    (fun _ _ _ hact => hact.genHolds) ht h

end Sys2Proof.Machine
end

section
/-! SUPPORT. A complete symbol stands through every step (10_state.md R27; 45_mask_format.md R271, R272; 46_session.md R294). -/

namespace Sys2Proof.Machine

/-! ### The 30 format cells -/

theorem mem_formatWrites {W : Nat} {f : BitVec 15} {w : CellWrite} :
    w ∈ formatWrites W f ↔
      ∃ k < 15, w = ⟨(cellA W k).1, (cellA W k).2, f.getLsbD k⟩ ∨ w = ⟨(cellB k).1, (cellB k).2, f.getLsbD k⟩ := by
  simp [formatWrites]

/-- No two bits of the format word share a cell of copy A (R271). -/
theorem cellA_inj {W j k : Nat} (hW : 21 ≤ W) (hj : j < 15) (hk : k < 15) (h : cellA W j = cellA W k) : j = k := by
  unfold cellA at h
  split at h <;> split at h <;> rw [Prod.mk.injEq] at h <;> omega

theorem cellB_inj : ∀ j < 15, ∀ k < 15, cellB j = cellB k → j = k := by decide

/-- The two copies of the format word share no cell (R271): copy B keeps to rows and columns 0..8. -/
theorem cellB_le : ∀ k < 15, (cellB k).1 ≤ 8 ∧ (cellB k).2 ≤ 8 := by decide

theorem cellA_ge {W k : Nat} (hW : 21 ≤ W) (hk : k < 15) : 13 ≤ (cellA W k).1 ∨ 13 ≤ (cellA W k).2 := by
  unfold cellA
  split <;> dsimp only <;> omega

theorem cellA_ne_cellB {W j k : Nat} (hW : 21 ≤ W) (hj : j < 15) (hk : k < 15) : cellA W j ≠ cellB k := by
  intro h
  have hA := cellA_ge hW hj
  have hB := cellB_le k hk
  rw [h] at hA
  omega

/-- Every write of the format word to a cell of bit k carries bit k. -/
theorem formatWrites_bit {W k : Nat} {f : BitVec 15} {c : Nat × Nat} (hW : 21 ≤ W) (hk : k < 15)
    (hc : c = cellA W k ∨ c = cellB k) {w : CellWrite} (hw : w ∈ formatWrites W f) (hx : w.x = c.1) (hy : w.y = c.2) :
    w.bit = f.getLsbD k := by
  obtain ⟨j, hj, hw⟩ := mem_formatWrites.mp hw
  have hjk : j = k := by
    rcases hw with rfl | rfl <;> have hcell := Prod.ext hx hy <;> rcases hc with rfl | rfl
    · exact cellA_inj hW hj hk hcell
    · exact absurd hcell (cellA_ne_cellB hW hj hk)
    · exact absurd hcell.symm (cellA_ne_cellB hW hk hj)
    · exact cellB_inj j hj k hk hcell
  rcases hw with rfl | rfl <;> rw [hjk]

/-- Both cells of bit k are among those the format word is written to (R272). -/
theorem formatCell_mem {W k : Nat} {c : Nat × Nat} (hk : k < 15) (hc : c = cellA W k ∨ c = cellB k) (f : BitVec 15) :
    ∃ w ∈ formatWrites W f, w.x = c.1 ∧ w.y = c.2 := by
  rcases hc with rfl | rfl
  · exact ⟨_, mem_formatWrites.mpr ⟨k, hk, .inl rfl⟩, rfl, rfl⟩
  · exact ⟨_, mem_formatWrites.mpr ⟨k, hk, .inr rfl⟩, rfl, rfl⟩

section FormatCells
variable {s : State} {k : Nat} {c : Nat × Nat} (hcfg : s.cfgOk = true) (hk : k < 15)
  (hc : c = cellA (width s.ver) k ∨ c = cellB k)
include hcfg hk hc

/-- The format cells are cells of the matrix. -/
theorem State.formatCell_inside : c.1 < width s.ver ∧ c.2 < width s.ver := by
  obtain ⟨w, hw, hx, hy⟩ := formatCell_mem hk hc 0
  exact hx ▸ hy ▸ State.cellsInside_formatWrites hcfg 0 w hw

/-- After the writes of a format word its cells hold it. -/
theorem State.cell_formatWrites (f : BitVec 15) :
    Memory.cell s.ramDraw .bitmap (stride s.ver)
      (Memory.storeCells s.ramDraw .bitmap (stride s.ver) s.mem (formatWrites (width s.ver) f)) c.1 c.2 = f.getLsbD k := by
  have hW : 21 ≤ width s.ver := by
    have := (State.cfgOk_iff.mp hcfg).1
    unfold width; omega
  exact Memory.cell_storeCells_of_mem _ _ _ _ _ (div_eight_lt_stride (State.formatCell_inside hcfg hk hc).1)
    (fun w hw => div_eight_lt_stride (State.cellsInside_formatWrites hcfg f w hw).1) (formatCell_mem hk hc f)
    fun w hw hx hy => formatWrites_bit hW hk hc hw hx hy

end FormatCells

/-! ### A complete symbol -/

/-- The registers a complete symbol speaks of. -/
def State.symbolRegs (s : State) : Bool × BitVec 6 × BitVec 2 × Bool × Bool × BitVec 3 :=
  (s.frameBuilt, s.version, s.eccLvl, s.selected, s.bestValid, s.bestId)

/-- A state with the same such registers and the same BITMAP, its symbol complete only if it was before. -/
theorem State.SymbolHolds.congr {s t : State} (h : s.SymbolHolds stdParams)
    (hsymbol : t.symbolValid = true → s.symbolValid = true) (hregs : t.symbolRegs = s.symbolRegs)
    (hram : ∀ k < Ram.bitmap.size, t.ram .bitmap k = s.ram .bitmap k) : t.SymbolHolds stdParams := by
  intro ht
  obtain ⟨hframe, hcfg, hsel, hbest, hcells⟩ := h (hsymbol ht)
  simp only [State.symbolRegs, Prod.mk.injEq] at hregs
  obtain ⟨eframe, ever, elvl, esel, ebest, eid⟩ := hregs
  have hver : t.ver = s.ver := congrArg BitVec.toNat ever
  have hlevel : t.level = s.level := congrArg BitVec.toNat elvl
  have hcfg' : t.cfgOk = s.cfgOk := by unfold State.cfgOk; rw [hver]
  have hcell {x y : Nat} (hxy : x < width s.ver ∧ y < width s.ver) : t.cell .bitmap x y = s.cell .bitmap x y := by
    have hbyte := hram _ (State.cellByte_lt_size hcfg hxy.1 hxy.2)
    unfold State.cell Memory.cell
    rw [hver]
    exact congrArg (fun b : Byte => b.getLsbD _) hbyte
  rw [eframe, hcfg', esel, ebest, hver, hlevel, eid]
  refine ⟨hframe, hcfg, hsel, hbest, fun k hk => ?_⟩
  rw [hcell (State.formatCell_inside hcfg hk (.inl rfl)), hcell (State.formatCell_inside hcfg hk (.inr rfl))]
  exact hcells k hk

/-- FORMAT_EMBED of the winner completes the symbol (R272). -/
theorem State.symbolHolds_formatEmbedEffect {s : State} (m : Nat) (hcfg : s.cfgOk = true) (hframe : s.frameBuilt = true) :
    (formatEmbedEffect stdParams m s).SymbolHolds stdParams := by
  intro hw
  obtain ⟨hsel, hbest, rfl⟩ := State.embedsWinner_iff.mp hw
  have hcell {k : Nat} (hk : k < 15) {c : Nat × Nat} (hc : c = cellA (width s.ver) k ∨ c = cellB k) :
      (formatEmbedEffect stdParams s.bestId.toNat s).cell .bitmap c.1 c.2 =
        (stdParams.formatWord s.level s.bestId.toNat).getLsbD k := by
    unfold State.cell
    rw [formatEmbedEffect_mem]
    exact State.cell_formatWrites hcfg hk hc _
  exact ⟨hframe, hcfg, hsel, hbest, fun k hk => ⟨hcell hk (.inl rfl), hcell hk (.inr rfl)⟩⟩

/-- A command that writes BITMAP clears SYMBOL_VALID, FORMAT_EMBED apart (R27). -/
theorem Writes.symbolHolds {i : Instr} {s t : State} (hw : Writes i s t) (h : s.SymbolHolds stdParams) :
    t.SymbolHolds stdParams := by
  have hram (hr : Ram.bitmap ∉ ramsWritten i) : ∀ k < Ram.bitmap.size, t.ram .bitmap k = s.ram .bitmap k :=
    fun _ hk => hw.ram_of_not_mem hr hk
  cases hw with
  | nop | gfLog | gfExp | rsGen | rsEnc | streamBuild | maskScore => exact h.congr id rfl (hram (by simp))
  | frameBuild | place | maskApply | maskSelect | sessionBegin => exact nofun
  | formatEmbed m hcfg hframe => exact State.symbolHolds_formatEmbedEffect m hcfg hframe

/-- A host write to BITMAP or RESERVED and a reset clear SYMBOL_VALID (R27, R79), and CFG is locked. -/
theorem ActsTo.symbolHolds {s t : State} {a : Input} (ha : ActsTo s a t) (h : s.SymbolHolds stdParams) :
    t.SymbolHolds stdParams := by
  cases ha with
  | softReset ha hv =>
    obtain ⟨m, fill, d, ht⟩ := s.softReset_eq_resetOver
    rw [ht]
    exact nofun
  | status a v =>
    obtain ⟨done, err, errCode, ht⟩ := s.writeStatus_keeps v
    rw [ht]
    exact h
  | read | enables | accept | operands | dropped => exact h
  | config a v hlock version eccLvl =>
    intro hs
    have hframe : s.cfgLocked = true := Bool.or_eq_true_iff.mpr (.inl (h hs).1)
    exact absurd hframe (by simp [hlock])
  | storeData a v hr hi b =>
    exact h.congr id rfl fun k hk => Memory.byte_store_ram_other _ _ hi hk (by rcases hr with rfl | rfl <;> decide) b
  | storeMatrix | powerOn => exact nofun

/-- Settles O11: whatever changes the frame, the selection or BITMAP clears SYMBOL_VALID, but FORMAT_EMBED of the winner, which
has just written the 30 cells. -/
theorem everyStepKeepsSymbol : Obligations.EveryStepKeepsSymbol := by
  unfold Obligations.EveryStepKeepsSymbol
  intro s t h ht
  exact step_keeps (fun _ _ _ hw => hw.symbolHolds) (fun _ ha => ha) (fun _ _ _ ha => ha) (fun _ _ _ _ ha => ha)
    (fun _ _ _ hact => hact.symbolHolds) ht h

end Sys2Proof.Machine
end

section
/-! SUPPORT. What commands leave as it was: the operands, the session's lock, the arena's accounting, the flags of the table
(10_state.md R23, R27, R28, R30, R37, R38, R41; 70_reset_and_hazards.md R371, R372). -/

namespace Sys2Proof.Machine

theorem Instr.Runs.ne_sessionBegin {i j : Instr} (h : Instr.Runs i j) (hi : i ≠ .sessionBegin) : j ≠ .sessionBegin := by
  rcases h with rfl | ⟨-, hj | ⟨m, rfl⟩⟩
  · exact hi
  · revert j; decide
  · nofun

/-! ### Operands -/

/-- The registers no command writes (R23, R28). -/
def State.operandRegs (s : State) :=
  (s.cmd, s.arg0, s.arg1, s.arg2, s.version, s.eccLvl, s.plen, s.arenaLimit, s.ieDone, s.ieErr)

theorem Writes.operandRegs_eq {i : Instr} {s t : State} (h : Writes i s t) : t.operandRegs = s.operandRegs := by
  cases h <;> rfl

theorem Writes.result_eq {i : Instr} {s t : State} (h : Writes i s t)
    (hi : i ∉ [Instr.gfLog, .gfExp, .maskScore, .maskSelect, .encode]) : t.result = s.result := by
  cases h with
  | gfLog | gfExp | maskScore | maskSelect => simp at hi
  | nop | rsGen | rsEnc | streamBuild | frameBuild | place | maskApply | formatEmbed | sessionBegin => rfl

theorem exec_operandRegs_eq {i : Instr} {s t : State} (h : exec i s = .next t) : t.operandRegs = s.operandRegs :=
  exec_keeps (p := fun a => a.operandRegs = s.operandRegs) (fun _ _ _ _ hw ha => hw.operandRegs_eq.trans ha)
    (fun _ ha => ha) (fun _ _ _ ha => ha) h rfl

theorem exec_result_eq {i : Instr} {s t : State} (h : exec i s = .next t)
    (hi : i ∉ [Instr.gfLog, .gfExp, .maskScore, .maskSelect, .encode]) : t.result = s.result := by
  have hne : i ≠ .encode := fun he => hi (by simp [he])
  exact exec_keeps (p := fun a => a.result = s.result)
    (fun _ _ _ hj hw ha => (hw.result_eq (hj.eq_of_ne_encode hne ▸ hi)).trans ha) (fun _ ha => ha) (fun _ _ _ ha => ha) h rfl

/-- A command ends with BUSY = 0 and DONE = 1 (R28, R320). -/
theorem exec_ends {i : Instr} {s t : State} (h : exec i s = .next t) : t.seq = .idle ∧ t.done = true := by
  rcases exec_cases h with ⟨_, _, rfl⟩ | ⟨_, _, rfl⟩ | ⟨_, _, _, rfl⟩ | ⟨_, _, _, _, _, rfl⟩ <;> exact ⟨rfl, rfl⟩

theorem payload_not_mem_ramsWritten (i : Instr) : Ram.payload ∉ ramsWritten i := by cases i <;> simp

theorem reserved_not_mem_ramsWritten {i : Instr} (h : i ∉ [Instr.frameBuild, .encode]) :
    Ram.reserved ∉ ramsWritten i := by
  cases i <;> simp at h ⊢

/-- Settles O7: no write touches the operand registers or PAYLOAD, and those of the commands not named leave RESULT and
RESERVED. -/
theorem commandsLeaveOperands : Obligations.CommandsLeaveOperands := by
  unfold Obligations.CommandsLeaveOperands
  intro i s
  obtain ⟨t, ht⟩ := exec_safe i s
  have hregs := exec_operandRegs_eq ht
  simp only [State.operandRegs, Prod.mk.injEq] at hregs
  obtain ⟨hcmd, harg0, harg1, harg2, hversion, hecc, hplen, hlimit, hdone, herr⟩ := hregs
  obtain ⟨hidle, hcompleted⟩ := exec_ends ht
  exact ⟨t, ht, hidle, hcompleted, hcmd, harg0, harg1, harg2, hversion, hecc, hplen, hlimit, hdone, herr,
    fun k hk => exec_ram_of_not_mem ht (payload_not_mem_ramsWritten i) hk, exec_result_eq ht,
    fun hi k hk => exec_ram_of_not_mem ht (reserved_not_mem_ramsWritten hi) hk⟩

/-! ### The lock on CFG -/

/-- The session of `s` still stands in `t`, with the CFG of `s` (R30). -/
def State.SessionStands (s t : State) : Prop := t.cfgLocked = true ∧ t.version = s.version ∧ t.eccLvl = s.eccLvl

theorem Writes.sessionStands {i : Instr} {s a b : State} (h : Writes i a b) (hi : i ≠ .sessionBegin)
    (ha : s.SessionStands a) : s.SessionStands b := by
  cases h with
  | nop | gfLog | gfExp | rsGen | rsEnc | place | maskApply | maskScore | maskSelect | formatEmbed => exact ha
  | streamBuild => exact ⟨State.cfgLocked_iff.mpr (.inr rfl), ha.2⟩
  | frameBuild => exact ⟨State.cfgLocked_iff.mpr (.inl rfl), ha.2⟩
  | sessionBegin => exact absurd rfl hi

theorem exec_sessionStands {i : Instr} {s t : State} (h : exec i s = .next t) (hi : i ≠ .sessionBegin)
    (hs : s.cfgLocked = true) : s.SessionStands t :=
  exec_keeps (fun _ _ _ hj hw ha => hw.sessionStands (hj.ne_sessionBegin hi) ha) (fun _ ha => ha) (fun _ _ _ ha => ha) h
    ⟨hs, rfl, rfl⟩

/-- No act but a reset ends a session (R30). -/
theorem ActsTo.sessionStands {s t : State} {i : Input} (h : ActsTo s i t) (hi : ¬i.IsReset) (hs : s.cfgLocked = true) :
    s.SessionStands t := by
  cases h with
  | softReset ha hv => exact absurd (.inl ⟨_, _, rfl, ha, hv⟩) hi
  | powerOn => exact absurd (.inr rfl) hi
  | status a v =>
    obtain ⟨done, err, errCode, ht⟩ := s.writeStatus_keeps v
    rw [ht]
    exact ⟨hs, rfl, rfl⟩
  | config a v hlock => simp [hlock] at hs
  | read | enables | accept | operands | dropped | storeData | storeMatrix => exact ⟨hs, rfl, rfl⟩

/-- The reset disjuncts of the statements about a step: the oldest pending act is a reset. -/
theorem pending_reset {s : State} {i : Input} {rest : List Input} (hp : s.pending = i :: rest) (hi : i.IsReset) :
    (∃ a v rest, s.pending = .write a v :: rest ∧ wordAddr a = 0x004 ∧ v.getLsbD 0 = true) ∨
      ∃ rest, s.pending = .powerOn :: rest := by
  rcases hi with ⟨a, v, rfl, ha, hv⟩ | rfl
  · exact .inl ⟨a, v, rest, hp, ha, hv⟩
  · exact .inr ⟨rest, hp⟩

/-- Settles O12: a locked CFG write only notes its error; of all writes and acts only SESSION_BEGIN's and a reset's end the
session. -/
theorem sessionLocksCfg : Obligations.SessionLocksCfg := by
  unfold Obligations.SessionLocksCfg
  refine ⟨fun s a v hidle hlock ha => ?drops, fun s t hlock ht => ?keeps⟩
  case drops =>
    rw [State.busWrite_reg _ hidle ha (r := .cfg) rfl]
    exact State.writeCfg_of_locked (State.cfgLocked_iff.mpr hlock) v
  case keeps =>
    have hs : s.cfgLocked = true := State.cfgLocked_iff.mpr hlock
    have stands (h : s.SessionStands t) :
        (t.frameBuilt = true ∨ t.streamValid = true) ∧ t.version = s.version ∧ t.eccLvl = s.eccLvl :=
      ⟨State.cfgLocked_iff.mp h.1, h.2⟩
    rcases step_cases ht with ⟨i, hseq, hd, hx⟩ | ⟨-, rfl⟩ | ⟨hseq, q, -, ⟨-, rfl⟩ | ⟨i, rest, hp, rfl⟩⟩
    · by_cases hi : i = .sessionBegin
      · exact .inr (.inl ⟨hseq, hi ▸ hd⟩)
      · exact .inl (stands (exec_sessionStands hx hi hs))
    · exact .inl (stands ⟨hs, rfl, rfl⟩)
    · exact .inl (stands ⟨hs, rfl, rfl⟩)
    · by_cases hi : i.IsReset
      · exact .inr (.inr ((pending_reset hp hi).imp (⟨hseq, ·⟩) (⟨hseq, ·⟩)))
      · exact .inl (stands ((actsTo_input (s.turned q rest) i).sessionStands hi hs))

/-! ### The arena -/

/-- ARENA_USED of `t` is that of `s` or has grown within ARENA_LIMIT (R37). -/
def State.ArenaGrows (s t : State) : Prop :=
  s.arenaUsed.toNat ≤ t.arenaUsed.toNat ∧ (t.arenaUsed ≠ s.arenaUsed → t.arenaUsed.toNat ≤ s.arenaLimit.toNat)

theorem State.ArenaGrows.of_eq {s t : State} (h : t.arenaUsed = s.arenaUsed) : s.ArenaGrows t :=
  ⟨by rw [h], fun hne => absurd h hne⟩

/-- A successful allocation does not wrap (R37). -/
theorem State.toNat_usedAfter {s : State} {n : Nat} (h : s.allocFits n = true) :
    (s.usedAfter n).toNat = s.arenaUsed.toNat + n :=
  Nat.mod_eq_of_lt (Nat.lt_of_le_of_lt (State.allocFits_iff.mp h) s.arenaLimit.isLt)

theorem State.ArenaGrows.of_alloc {s t : State} {n : Nat} (h : s.allocFits n = true) (ht : t.arenaUsed = s.usedAfter n) :
    s.ArenaGrows t := by
  have hfits := State.allocFits_iff.mp h
  have hused := State.toNat_usedAfter h
  unfold State.ArenaGrows
  rw [ht, hused]
  exact ⟨Nat.le_add_right _ _, fun _ => hfits⟩

theorem State.ArenaGrows.trans {s a b : State} (h : s.ArenaGrows a) (hlimit : a.arenaLimit = s.arenaLimit)
    (hab : a.ArenaGrows b) : s.ArenaGrows b := by
  refine ⟨h.1.trans hab.1, fun hne => ?_⟩
  by_cases hb : b.arenaUsed = a.arenaUsed
  · rw [hb] at hne ⊢
    exact h.2 hne
  · rw [← hlimit]
    exact hab.2 hb

/-- No write but SESSION_BEGIN's takes arena bytes back. -/
theorem Writes.arenaGrows {i : Instr} {s t : State} (h : Writes i s t) (hi : i ≠ .sessionBegin) : s.ArenaGrows t := by
  cases h with
  | streamBuild hcfg hfits => exact .of_alloc hfits rfl
  | frameBuild hcfg hnew hfits => exact .of_alloc hfits rfl
  | sessionBegin => exact absurd rfl hi
  | nop | gfLog | gfExp | rsGen | rsEnc | place | maskApply | maskScore | maskSelect | formatEmbed => exact .of_eq rfl

theorem Writes.arenaLimit_eq {i : Instr} {s t : State} (h : Writes i s t) : t.arenaLimit = s.arenaLimit := by
  cases h <;> rfl

theorem exec_arenaGrows {i : Instr} {s t : State} (h : exec i s = .next t) (hi : i ≠ .sessionBegin) : s.ArenaGrows t :=
  (exec_keeps (p := fun a => s.ArenaGrows a ∧ a.arenaLimit = s.arenaLimit)
    (fun _ _ _ hj hw ⟨hg, hl⟩ => ⟨hg.trans hl (hw.arenaGrows (hj.ne_sessionBegin hi)), hw.arenaLimit_eq.trans hl⟩)
    (fun _ ha => ha) (fun _ _ _ ha => ha) h ⟨.of_eq rfl, rfl⟩).1

/-- No act but a reset writes ARENA_USED (R37). -/
theorem ActsTo.arenaUsed_eq {s t : State} {i : Input} (h : ActsTo s i t) (hi : ¬i.IsReset) : t.arenaUsed = s.arenaUsed := by
  cases h with
  | softReset ha hv => exact absurd (.inl ⟨_, _, rfl, ha, hv⟩) hi
  | powerOn => exact absurd (.inr rfl) hi
  | status a v =>
    obtain ⟨done, err, errCode, ht⟩ := s.writeStatus_keeps v
    rw [ht]
  | read | enables | accept | config | operands | dropped | storeData | storeMatrix => rfl

theorem exec_sessionBegin (s : State) : exec .sessionBegin s = .next (sessionBeginEffect s).complete := rfl

/-- Settles O14: allocations add within ARENA_LIMIT, and only SESSION_BEGIN and a reset write 0. -/
theorem arenaNeverReclaims : Obligations.ArenaNeverReclaims := by
  unfold Obligations.ArenaNeverReclaims
  intro s t ht
  rcases step_cases ht with ⟨i, hseq, hd, hx⟩ | ⟨-, rfl⟩ | ⟨hseq, q, -, ⟨-, rfl⟩ | ⟨i, rest, hp, rfl⟩⟩
  · by_cases hi : i = .sessionBegin
    · subst hi
      rw [exec_sessionBegin, Host.Outcome.next.injEq] at hx
      exact .inr ⟨hx ▸ rfl, .inl ⟨hseq, hd⟩⟩
    · exact .inl (exec_arenaGrows hx hi)
  · exact .inl (State.ArenaGrows.of_eq rfl)
  · exact .inl (State.ArenaGrows.of_eq rfl)
  · by_cases hi : i.IsReset
    · obtain ⟨m, fill, d, hreset⟩ := (s.turned q rest).input_of_isReset hi
      exact .inr ⟨by rw [hreset]; rfl, .inr ((pending_reset hp hi).imp (⟨hseq, ·⟩) (⟨hseq, ·⟩))⟩
    · exact .inl (State.ArenaGrows.of_eq ((actsTo_input (s.turned q rest) i).arenaUsed_eq hi))

end Sys2Proof.Machine
end

section
/-! SUPPORT. The session flags command by command (10_state.md R27), NOP (46_session.md R290), and acceptance to completion
(10_state.md R28; 70_reset_and_hazards.md R372). -/

namespace Sys2Proof.Machine

theorem formatEmbedEffect_symbolValid (P : Params) (m : Nat) (s : State) :
    (formatEmbedEffect P m s).symbolValid = s.embedsWinner m := rfl

/-- A completed ENCODE has set every flag of a symbol (R292). -/
theorem EncodeWrites.flags {s t : State} (h : EncodeWrites s t) :
    t.frameBuilt = true ∧ t.streamValid = true ∧ t.genValid = true ∧ t.placed = true ∧ t.selected = true ∧
      t.symbolValid = true := by
  obtain ⟨s1, s2, s3, s4, h1, h2, h3, h4, h5⟩ := h
  cases h1; cases h2; cases h3; cases h4; cases h5
  exact ⟨rfl, rfl, rfl, rfl, rfl, by
    rw [formatEmbedEffect_symbolValid]; exact State.embedsWinner_iff.mpr ⟨rfl, rfl, rfl⟩⟩

/-- Settles O13: each write is compared with its row of the flag table, an error changes no flag, and a completed ENCODE only
sets flags. -/
theorem commandsChangeFlagsAsListed : Obligations.CommandsChangeFlagsAsListed := by
  unfold Obligations.CommandsChangeFlagsAsListed
  intro i s t h
  rcases exec_cases h with ⟨u, hu, rfl⟩ | ⟨e, he, rfl⟩ | ⟨rfl, u, hu, rfl⟩ | ⟨rfl, e, u, he, hu, rfl⟩
  · cases hu with
    | nop => simp +contextual
    | gfLog => simp +contextual [gfLogEffect]
    | gfExp => simp +contextual [gfExpEffect]
    | rsGen => simp +contextual [rsGenEffect]
    | rsEnc => simp +contextual [rsEncEffect]
    | streamBuild => simp +contextual [streamBuildEffect]
    | frameBuild => simp +contextual [frameBuildEffect]
    | place => simp +contextual [placeEffect]
    | maskApply m => simp +contextual [maskApplyEffect]
    | maskScore => simp +contextual [maskScoreEffect]
    | maskSelect => simp +contextual [maskSelectEffect]
    | formatEmbed m => simp +contextual [formatEmbedEffect, State.embedsWinner_iff]
    | sessionBegin => simp +contextual [sessionBeginEffect]
  · simp +contextual
  · obtain ⟨hframe, hstream, hgen, hplaced, hsel, hsymbol⟩ := hu.flags
    simp [hframe, hstream, hgen, hplaced, hsel, hsymbol]
  · cases hu
    simp +contextual [streamBuildEffect]

/-- Settles O56: NOP has no check and no write, so it only completes. -/
theorem nopResult : Obligations.NopResult := by
  unfold Obligations.NopResult
  exact ⟨by decide, fun _ => rfl⟩

/-! ### Acceptance to completion -/

theorem run_succ {s t : State} (h : step s = .next t) (k : Nat) : Sys2Proof.core.run (k + 1) s = Sys2Proof.core.run k t := by
  have hcore : Sys2Proof.core.step s = .next t := h
  simp only [Host.Core.run, hcore]

theorem run_one (s : State) : Sys2Proof.core.run 1 s = step s := by
  obtain ⟨t, ht⟩ := step_safe s
  exact (run_succ ht 0).trans ht.symm

/-- With no act pending a command of LATENCY n runs, atomically, in step n + 1 after its acceptance (R372). -/
theorem run_executing {s : State} {i : Instr} (hp : s.pending = []) (hd : decode s.cmd = .ok i) (n : Nat) :
    Sys2Proof.core.run (n + 1) { s with seq := .executing n } = exec i { s with seq := .executing 0 } := by
  induction n with
  | zero => exact (run_one _).trans (step_of_legal rfl hd)
  | succ n ih =>
    have hstep : step { s with seq := .executing (n + 1) } = .next { s with seq := .executing n } := by
      rw [step_of_waiting rfl]
      exact congrArg _ (State.environmentTurn_of_pending_nil _ hp)
    exact (run_succ hstep _).trans ih

theorem State.accept_of_legal {s : State} {w : Word} {i : Instr} {n : Nat} {rest : List Nat} (hd : decode w = .ok i)
    (hl : s.latencies = n :: rest) :
    s.accept w = { s with cmd := w, done := false, seq := .executing n, latencies := rest } := by
  simp only [State.accept, State.nextLatency, State.latenciesAfter, hd, hl, List.headD_cons, List.tail_cons]

/-- Settles O6: the first step performs the pending write, which accepts the word; `run_executing` gives the rest. -/
theorem acceptedCommandRuns : Obligations.AcceptedCommandRuns := by
  unfold Obligations.AcceptedCommandRuns
  intro s w i n rest hidle hp hl hd
  have haccept : step s =
      .next { s with pending := [], latencies := rest, cmd := w, done := false, seq := .executing n } := by
    rw [step_of_idle hidle, State.environmentTurn_of_pending_cons _ hp, State.input,
      State.busWrite_reg (s := { s with pending := [] }) _ hidle (w := 0x00C) (r := .cmd) (by decide) rfl, State.writeReg,
      State.accept_of_legal (s := { s with pending := [] }) hd hl]
  refine ⟨(run_one s).trans haccept, (run_succ haccept _).trans ?_⟩
  exact run_executing (s := { s with pending := [], latencies := rest, cmd := w, done := false }) rfl hd n

/-- Settles O8: the reset registers meet the machine invariant over the empty memory, and no flag claims anything of RAM. -/
theorem invariantsHoldAtReset : Obligations.InvariantsHoldAtReset := by
  unfold Obligations.InvariantsHoldAtReset
  exact ⟨State.inv_resetOver State.reset (m := []) (fill := 0) (d := 1) Memory.wf_nil (by decide), nofun, nofun⟩

end Sys2Proof.Machine
end

section
/-! SUPPORT. The registers and windows on the bus: what reads return and writes do (10_state.md R21–R37, R40; 20_memory.md
R71–R79; 60_exceptions.md R321, R328, R331), and resets (70_reset_and_hazards.md R361–R363). -/

namespace Sys2Proof.Machine

/-! ### Reads -/

/-- Clearing bits [1:0] of a bus address (R75). -/
theorem wordAddr_eq_and (a : Addr) : wordAddr a = (a &&& 0x1FFFC).toNat := by
  have hmask : (0x1FFFC : Addr).toNat = (2 ^ 15 - 1) <<< 2 := by decide
  have hshift : wordAddr a = a.toNat >>> 2 <<< 2 := by
    rw [wordAddr, Nat.shiftLeft_eq, Nat.shiftRight_eq_div_pow]
  rw [hshift, BitVec.toNat_and, hmask]
  refine Nat.eq_of_testBit_eq fun j => ?_
  simp only [Nat.testBit_and, Nat.testBit_shiftLeft, Nat.testBit_shiftRight, Nat.testBit_two_pow_sub_one]
  by_cases h2 : 2 ≤ j
  · by_cases hj : j < 17
    · simp [h2, show j - 2 < 15 by omega]
    · have hhigh : a.toNat.testBit j = false :=
        Nat.testBit_lt_two_pow (a.isLt.trans_le (Nat.pow_le_pow_right (by decide) (Nat.le_of_not_lt hj)))
      simp [h2, hhigh]
  · simp [h2]

/-- The LOG window (R71). -/
theorem regionAt_logRom {i : Nat} (h : i < 256) : regionAt (0x01000 + 4 * i) = .logRom i := by
  simp (disch := omega) only [regionAt, if_neg, if_pos, Nat.add_sub_cancel_left, Nat.mul_div_cancel_left]

/-- The EXP window (R71). -/
theorem regionAt_expRom {i : Nat} (h : i < 256) : regionAt (0x01400 + 4 * i) = .expRom i := by
  simp (disch := omega) only [regionAt, if_neg, if_pos, Nat.add_sub_cancel_left, Nat.mul_div_cancel_left]

/-- Reserved offsets and unmapped addresses (R22 (a), R71, R77). -/
theorem regionAt_unmapped {w : Nat}
    (h : w = 0x044 ∨ (0x088 ≤ w ∧ w < 0x01000) ∨ (0x01C00 ≤ w ∧ w < 0x04000) ∨ 0x14000 ≤ w) :
    regionAt w = .unmapped := by
  rcases h with rfl | ⟨hlo, hhi⟩ | ⟨hlo, hhi⟩ | hlo
  · rfl
  · rw [regionAt_of_lt hhi, regRegion_of_ge hlo]
  · simp (disch := omega) only [regionAt, if_neg, if_pos]
  · simp (disch := omega) only [regionAt, if_neg]

/-- Settles O15: an idle read returns the word of the region its word address selects. -/
theorem idleReads : Obligations.IdleReads := by
  unfold Obligations.IdleReads
  intro s a hidle
  have hread {w : Nat} {g : Region} (ha : wordAddr a = w) (hg : regionAt w = g) :
      s.regionWord stdParams (region a) = s.regionWord stdParams g := by
    rw [region_of_wordAddr ha, hg]
  exact ⟨wordAddr_eq_and a, s.regionWord stdParams (region a), State.busRead_of_idle _ hidle,
    fun i hi ha => hread ha (regionAt_logRom hi), fun i hi ha => hread ha (regionAt_expRom hi),
    fun i hi ha => hread ha (regionAt_addr (r := .gen) hi), fun i hi ha => hread ha (regionAt_addr (r := .payload) hi),
    fun i hi ha => hread ha (regionAt_addr (r := .stream) hi), fun i hi ha => hread ha (regionAt_addr (r := .bitmap) hi),
    fun i hi ha => hread ha (regionAt_addr (r := .reserved) hi), fun ha => hread rfl (regionAt_unmapped ha)⟩

/-- While BUSY = 0 a read at a register's offset returns the register. -/
theorem State.readData_busRead_reg (P : Params) {s : State} {a : Addr} (h : s.seq = .idle) {w : Nat} (ha : wordAddr a = w)
    {r : Reg} (hr : regionAt w = .reg r) : (s.busRead P a).readData = s.regWord P r := by
  rw [State.busRead_of_idle P h, region_of_wordAddr ha, hr, State.regionWord]

theorem regionAt_score (m : Fin 8) : regionAt (0x060 + 4 * m.val) = .reg (.score m) := by
  revert m; decide

/-- A packed word as a number. -/
theorem toNat_append_eq_add {m n : Nat} (x : BitVec m) (y : BitVec n) : (x ++ y).toNat = x.toNat * 2 ^ n + y.toNat := by
  rw [BitVec.toNat_append, ← Nat.shiftLeft_add_eq_or_of_lt y.isLt, Nat.shiftLeft_eq]

theorem State.toNat_cfgWord (s : State) : s.cfgWord.toNat = s.eccLvl.toNat * 256 + s.version.toNat := by
  simp only [State.cfgWord, toNat_append_eq_add, BitVec.toNat_ofNat]
  omega

theorem State.toNat_bestWord (s : State) : s.bestWord.toNat = s.bestValid.toNat * 256 + s.bestId.toNat := by
  simp only [State.bestWord, toNat_append_eq_add, BitVec.toNat_ofNat, BitVec.toNat_ofBool]
  omega

/-- The numbers of R321. -/
theorem State.errWord_eq (s : State) :
    ∀ c ∈ [(ErrCode.none, 0#32), (.badCmd, 1), (.badCfg, 2), (.badArg, 3), (.seq, 4), (.frameAlreadyBuilt, 5),
      (.arenaExhausted, 6), (.cfgLocked, 7), (.busyWrite, 8)], s.errCode = c.1 → s.errWord = c.2 := by
  unfold State.errWord
  cases s.errCode <;> decide

/-- Settles O18: each offset selects its register; the packed words are compared as numbers. -/
theorem registerReads : Obligations.RegisterReads := by
  unfold Obligations.RegisterReads
  rintro s a v hidle rfl
  have hread {w : Nat} (r : Reg) (hr : regionAt w = .reg r) (ha : wordAddr a = w) :
      (s.busRead stdParams a).readData = s.regWord stdParams r := State.readData_busRead_reg _ hidle ha hr
  have hnat {n w : Nat} {x : BitVec n} (r : Reg) (hr : regionAt w = .reg r) (hx : (s.regWord stdParams r).toNat = x.toNat)
      (ha : wordAddr a = w) : (s.busRead stdParams a).readData.toNat = x.toNat := by rw [hread r hr ha, hx]
  exact ⟨hread .id rfl, hread .ctrl rfl, hread .status rfl, hread .cmd rfl,
    fun ha => by rw [hread .cfg rfl ha]; exact s.toNat_cfgWord,
    hnat .plen rfl (BitVec.toNat_setWidth_of_le (by decide)), hread .arg0 rfl, hread .arg1 rfl, hread .arg2 rfl,
    hread .result rfl, fun ha => by rw [hread .errcode rfl ha]; exact s.errWord_eq,
    hnat .usedLen rfl (BitVec.toNat_setWidth_of_le (by decide)),
    fun ha => by rw [hread .best rfl ha]; exact s.toNat_bestWord,
    hread .arenaLimit rfl, hread .arenaUsed rfl, hread .pen1 rfl, hread .pen2 rfl, hread .pen3 rfl, hread .pen4 rfl,
    fun m => hread (.score m) (regionAt_score m), hnat .genLen rfl (BitVec.toNat_setWidth_of_le (by decide)),
    hread .dark rfl⟩

/-! ### The packed words -/

/-- The bits of STATUS in order, from bit 0 (R26). -/
theorem State.getLsbD_statusWord (s : State) (n : Nat) :
    s.statusWord.getLsbD n =
      [s.busy, s.done, s.err, s.irq, false, false, false, false, s.frameBuilt, s.streamValid, s.genValid, s.placed,
        s.selected, s.symbolValid, s.truncated].getD n false := by
  by_cases hn : n < 15
  · interval_cases n <;>
      simp only [State.statusWord, BitVec.getLsbD_append, BitVec.getLsbD_ofBool, BitVec.getLsbD_zero] <;> rfl
  · rw [List.getD_eq_default _ _ (Nat.le_of_not_lt hn)]
    simp (disch := omega) only [State.statusWord, BitVec.getLsbD_append, if_neg, BitVec.getLsbD_zero]

/-- The bits of CTRL in order, from bit 0 (R25). -/
theorem State.getLsbD_ctrlWord (s : State) (n : Nat) :
    s.ctrlWord.getLsbD n = [false, s.ieDone, s.ieErr].getD n false := by
  by_cases hn : n < 3
  · interval_cases n <;>
      simp only [State.ctrlWord, BitVec.getLsbD_append, BitVec.getLsbD_ofBool, BitVec.getLsbD_zero] <;> rfl
  · rw [List.getD_eq_default _ _ (Nat.le_of_not_lt hn)]
    simp (disch := omega) only [State.ctrlWord, BitVec.getLsbD_append, if_neg, BitVec.getLsbD_zero]

theorem State.busy_eq_decide (s : State) : s.busy = decide (s.seq ≠ .idle) := by
  unfold State.busy; cases s.seq <;> rfl

/-- Settles O17: the bits of the two words, read off their lists. -/
theorem statusAndControlBits : Obligations.StatusAndControlBits := by
  unfold Obligations.StatusAndControlBits
  intro s
  have hstatus := s.getLsbD_statusWord
  have hctrl := s.getLsbD_ctrlWord
  refine ⟨rfl, (hstatus 0).trans s.busy_eq_decide, hstatus 1, hstatus 2, hstatus 3, hstatus 8, hstatus 9, hstatus 10,
    hstatus 11, hstatus 12, hstatus 13, hstatus 14, fun n hn => (hstatus n).trans ?_, hctrl 1, hctrl 2,
    fun n hn => (hctrl n).trans ?_⟩
  · rcases hn with ⟨hlo, hhi⟩ | hn
    · interval_cases n <;> rfl
    · exact List.getD_eq_default _ _ hn
  · rcases hn with rfl | hn
    · rfl
    · exact List.getD_eq_default _ _ hn

/-! ### The configuration registers -/

/-- The fields of every block-table entry fit their bytes of BLK (R33, R171). -/
theorem stdBlockTable_fields {v l : Nat} (hv1 : 1 ≤ v) (hv : v ≤ 40) (hl : l < 4) :
    (stdBlockTable v l).short < 256 ∧ (stdBlockTable v l).long < 256 ∧ (stdBlockTable v l).dataWidth < 256 := by
  have h : ∀ v < 41, ∀ l < 4, 1 ≤ v →
      (stdBlockTable v l).short < 256 ∧ (stdBlockTable v l).long < 256 ∧ (stdBlockTable v l).dataWidth < 256 := by
    decide +kernel
  exact h v (by omega) l hl hv1

theorem State.information_of_illegal (P : Params) {s : State} (h : s.cfgOk = false) :
    s.capWord P = 0 ∧ s.totalWord P = 0 ∧ s.blkWord P = 0 ∧ s.geomWord = 0 := by
  simp [State.capWord, State.totalWord, State.blkWord, State.geomWord, h]

section Legal
variable {s : State} (h : s.cfgOk = true)
include h

theorem State.toNat_capWord : (s.capWord stdParams).toNat = (s.entry stdParams).capacity := by
  obtain ⟨-, -, -, -, hcap⟩ := State.entry_bounds h
  rw [State.capWord, if_pos h, BitVec.toNat_ofNat]
  exact Nat.mod_eq_of_lt (by omega)

theorem State.toNat_totalWord : (s.totalWord stdParams).toNat = (s.entry stdParams).total := by
  obtain ⟨htotal, -⟩ := State.entry_bounds h
  rw [State.totalWord, if_pos h, BitVec.toNat_ofNat]
  exact Nat.mod_eq_of_lt (by omega)

theorem State.blkWord_fields :
    ((s.blkWord stdParams).extractLsb' 0 8).toNat = (s.entry stdParams).short ∧
      ((s.blkWord stdParams).extractLsb' 8 8).toNat = (s.entry stdParams).long ∧
      ((s.blkWord stdParams).extractLsb' 16 8).toNat = (s.entry stdParams).dataWidth ∧
      ((s.blkWord stdParams).extractLsb' 24 8).toNat = (s.entry stdParams).eccWidth := by
  obtain ⟨hlo, hhi⟩ := State.cfgOk_iff.mp h
  obtain ⟨-, -, hecc, -⟩ := State.entry_bounds h
  obtain ⟨hshort, hlong, hdata⟩ : (s.entry stdParams).short < 256 ∧ (s.entry stdParams).long < 256 ∧
      (s.entry stdParams).dataWidth < 256 := stdBlockTable_fields hlo hhi s.level_lt
  simp only [State.blkWord, if_pos h, BitVec.extractLsb'_toNat, toNat_append_eq_add, BitVec.toNat_ofNat,
    Nat.shiftRight_eq_div_pow]
  omega

theorem State.toNat_geomWord : s.geomWord.toNat = stride s.ver * 256 + width s.ver := by
  obtain ⟨hlo, hhi⟩ := State.cfgOk_iff.mp h
  simp only [State.geomWord, if_pos h, toNat_append_eq_add, BitVec.toNat_ofNat, stride, width]
  omega

end Legal

/-- Settles O19: an illegal VERSION reads 0 throughout; for a legal one every quantity fits its register or field. -/
theorem configurationRegisters : Obligations.ConfigurationRegisters := by
  unfold Obligations.ConfigurationRegisters
  rintro s hidle v l sh lo d e rfl rfl hentry cap total blk geom rfl rfl rfl rfl
  have hentry : s.entry stdParams = ⟨sh, lo, d, e⟩ := hentry
  rw [State.readData_busRead_reg _ hidle (w := 0x02C) (r := .cap) (by decide) rfl,
    State.readData_busRead_reg _ hidle (w := 0x030) (r := .total) (by decide) rfl,
    State.readData_busRead_reg _ hidle (w := 0x034) (r := .blk) (by decide) rfl,
    State.readData_busRead_reg _ hidle (w := 0x038) (r := .geom) (by decide) rfl]
  refine ⟨fun hv => ?illegal, fun hv => ?legal⟩
  case illegal =>
    refine State.information_of_illegal stdParams (Bool.eq_false_of_not_eq_true fun h => ?_)
    have hver := State.cfgOk_iff.mp h
    unfold State.ver at hver
    omega
  case legal =>
    have h : s.cfgOk = true := State.cfgOk_iff.mpr hv
    obtain ⟨hshort, hlong, hdata, hecc⟩ := State.blkWord_fields h
    rw [hentry] at hshort hlong hdata hecc
    exact ⟨(State.toNat_capWord h).trans (by rw [hentry]; rfl), (State.toNat_totalWord h).trans (by rw [hentry]; rfl),
      hshort, hlong, hdata, hecc, State.toNat_geomWord h⟩

/-! ### Writes -/

/-- Settles O20: each offset selects its register, and the register's write is the one stated. -/
theorem registerWrites : Obligations.RegisterWrites := by
  unfold Obligations.RegisterWrites
  refine ⟨fun s a v ha hv => ?ctrl, fun s a v hidle => ?idle⟩
  case ctrl =>
    rw [State.busWrite_ctrl _ ha, State.writeCtrl, hv, if_neg Bool.false_ne_true]
  case idle =>
    have hwrite {w : Nat} (r : Reg) (hr : regionAt w = .reg r) (ha : wordAddr a = w) :
        s.busWrite stdParams a v = s.writeReg stdParams r v := State.busWrite_reg _ hidle ha hr v
    refine ⟨fun ha => ⟨_, _, hwrite .cmd rfl ha⟩, fun ha hframe hstream => ?cfg, hwrite .plen rfl, hwrite .arg0 rfl,
      hwrite .arg1 rfl, hwrite .arg2 rfl, hwrite .arenaLimit rfl⟩
    case cfg =>
      have hlock : s.cfgLocked = false := by rw [State.cfgLocked, hframe, hstream]; rfl
      exact (hwrite .cfg rfl ha).trans (State.writeCfg_of_unlocked hlock v)

/-- Settles O23: STATUS takes its write busy or not, and each of the two bits acts on its own. -/
theorem statusWriteOneClears : Obligations.StatusWriteOneClears := by
  unfold Obligations.StatusWriteOneClears
  intro s a v ha
  rw [State.busWrite_status _ ha, State.writeStatus]
  cases hdone : v.getLsbD 1 <;> cases herr : v.getLsbD 2 <;> simp [State.clearDone, State.clearError]

/-! ### Resets -/

/-- Settles O25: register by register. -/
theorem registersAfterReset : Obligations.RegistersAfterReset := by
  unfold Obligations.RegistersAfterReset
  refine ⟨fun r => ?_, rfl, rfl, rfl⟩
  cases r with
  | score m => revert m; decide
  | id | ctrl | status | cmd | cfg | plen | arg0 | arg1 | arg2 | result | errcode | cap | total | blk | geom => decide
  | usedLen | best | arenaLimit | arenaUsed | pen1 | pen2 | pen3 | pen4 | genLen | dark => decide

theorem State.softReset_of_idle (P : Params) {s : State} (h : s.seq = .idle) :
    s.softReset P = s.resetOver s.mem s.ramDraw s.draws := by
  simp only [State.softReset, h]

theorem State.softReset_of_executing (P : Params) {s : State} {n : Nat} (h : s.seq = .executing n) :
    s.softReset P = s.resetOver (Memory.forget s.draws (s.abortFootprint P) s.mem) s.ramDraw (s.draws + 1) := by
  simp only [State.softReset, h]

theorem State.abortFootprint_of_legal (P : Params) {s : State} {n : Nat} {i : Instr} (h : s.seq = .executing n)
    (hd : decode s.cmd = .ok i) : s.abortFootprint P = footprint P i s := by
  simp only [State.abortFootprint, h, hd]

/-- Settles O27: each reset is `resetOver` some RAM contents; an abort forgets the footprint only. -/
theorem resets : Obligations.Resets := by
  unfold Obligations.Resets
  refine ⟨fun s a v hidle ha hv => ?idle, fun s a v n i hseq hd ha hv => ?abort, fun s => ⟨_, _, rfl⟩⟩
  case idle =>
    rw [State.busWrite_ctrl _ ha, State.writeCtrl_srst _ hv, State.softReset_of_idle _ hidle]
    rfl
  case abort =>
    rw [State.busWrite_ctrl _ ha, State.writeCtrl_srst _ hv, State.softReset_of_executing _ hseq,
      State.abortFootprint_of_legal _ hseq hd]
    exact ⟨_, rfl, rfl, fun b hb => Memory.byte_forget_of_not_mem _ _ _ _ hb⟩

end Sys2Proof.Machine
end

section
/-! SUPPORT. Which regions of the address map take a write while BUSY = 0, and what a write to a window stores
(10_state.md R22; 20_memory.md R71–R79). -/

namespace Sys2Proof.Machine

/-! ### The regions a write leaves alone -/

/-- The regions whose write while BUSY = 0 can change the state: the writable registers and the windows but GEN's (R21,
R78). -/
def Region.takesWrites : Region → Bool
  | .reg .ctrl | .reg .status | .reg .cmd | .reg .cfg | .reg .plen => true
  | .reg .arg0 | .reg .arg1 | .reg .arg2 | .reg .arenaLimit => true
  | .ram r _ => r ≠ .gen
  | .reg _ | .logRom _ | .expRom _ | .unmapped => false

/-- Read-only registers, the ROMs, GEN and unmapped addresses ignore a write (R22 (b), R77, R78). -/
theorem State.writeIdle_of_takesWrites_eq_false (P : Params) (s : State) {g : Region} (h : g.takesWrites = false)
    (v : Word) : s.writeIdle P g v = s := by
  cases g with
  | logRom _ | expRom _ | unmapped => rfl
  | ram r i =>
    obtain rfl : r = .gen := by simpa [Region.takesWrites] using h
    rfl
  | reg r =>
    cases r with
    | ctrl | status | cmd | cfg | plen | arg0 | arg1 | arg2 | arenaLimit => cases h
    | id | result | errcode | cap | total | blk | geom | usedLen | best | arenaUsed => rfl
    | pen1 | pen2 | pen3 | pen4 | score _ | genLen | dark => rfl

/-- The writable registers stand at 0x004..0x020 and at 0x048 (R21). -/
theorem offset_of_takesWrites_regRegion {w : Nat} (h : (regRegion w).takesWrites = true) :
    (0x004 ≤ w ∧ w < 0x024) ∨ w = 0x048 := by
  revert h
  unfold regRegion
  split <;> simp [Region.takesWrites]

/-- Beside the writable registers only the four windows from PAYLOAD to RESERVED take a write (R71, R78). -/
theorem offset_of_takesWrites_regionAt {w : Nat} (h : (regionAt w).takesWrites = true) :
    (0x004 ≤ w ∧ w < 0x024) ∨ w = 0x048 ∨ (0x04000 ≤ w ∧ w < 0x14000) := by
  by_cases hreg : w < 0x01000
  · rw [regionAt_of_lt hreg] at h
    exact (offset_of_takesWrites_regRegion h).imp_right .inl
  · by_cases hlow : w < 0x04000
    · rw [regionAt, if_neg hreg] at h
      split_ifs at h <;> cases h
    · by_cases hhigh : w < 0x14000
      · exact .inr (.inr ⟨Nat.le_of_not_lt hlow, hhigh⟩)
      · rw [regionAt_unmapped (.inr (.inr (.inr (Nat.le_of_not_lt hhigh))))] at h
        exact absurd h Bool.false_ne_true

/-- Settles O21: none of these addresses selects a region that takes a write. -/
theorem ignoredWrites : Obligations.IgnoredWrites := by
  unfold Obligations.IgnoredWrites
  intro s a v hidle ha
  have hignored : (region a).takesWrites = false := by
    refine Bool.eq_false_of_not_eq_true fun h => ?_
    have haddr := offset_of_takesWrites_regionAt h
    omega
  rw [State.busWrite_of_idle _ hidle, State.writeIdle_of_takesWrites_eq_false _ s hignored]

/-! ### The windows a write changes -/

theorem Ram.size_of_ne_gen {r : Ram} (h : r ≠ .gen) : r.size = 4096 := by
  cases r with
  | gen => exact absurd rfl h
  | payload | stream | bitmap | reserved => rfl

/-- A write to a window but GEN's stores bits [7:0], and at BITMAP and RESERVED drops the selection (R73, R79). -/
theorem State.writeRam_of_ne_gen (s : State) {r : Ram} (h : r ≠ .gen) (i : Nat) (v : Word) :
    s.writeRam r i v =
      { s with
        mem := Memory.store s.mem (r.addr i) (v.extractLsb' 0 8)
        selected := if r = .bitmap ∨ r = .reserved then false else s.selected
        symbolValid := if r = .bitmap ∨ r = .reserved then false else s.symbolValid } := by
  cases r with
  | gen => exact absurd rfl h
  | payload | stream | bitmap | reserved => rfl

/-- While BUSY = 0 a write at the word of a RAM byte is a write of that byte. -/
theorem State.busWrite_ram (P : Params) {s : State} {a : Addr} (h : s.seq = .idle) {r : Ram} {i : Nat} (hi : i < r.size)
    (ha : wordAddr a = r.addr i) (v : Word) : s.busWrite P a v = s.writeRam r i v := by
  rw [State.busWrite_of_idle P h, region_of_wordAddr ha, regionAt_addr hi, State.writeIdle]

/-- Settles O24: the address selects its byte, and one byte stored leaves every other address. -/
theorem windowWrites : Obligations.WindowWrites := by
  unfold Obligations.WindowWrites
  intro s r i a v hidle hgen hi ha
  have hsize : i < r.size := by rw [Ram.size_of_ne_gen hgen]; exact hi
  rw [State.busWrite_ram _ hidle hsize ha, State.writeRam_of_ne_gen s hgen]
  exact ⟨_, rfl, rfl, Memory.byte_store_same _ _ _ _, fun b hb => Memory.byte_store_ne _ _ _ hb⟩

end Sys2Proof.Machine
end

section
/-! SUPPORT. A command word is its three fields (30_encoding.md R100): the decoder's meaning of a word read off them, the
assembled word's fields, which words are illegal (R103), and acceptance to completion of an illegal word (R104). -/

namespace Sys2Proof

/-! ### The fields of a word -/

theorem opField_eq_mod (w : Word) : opField w = w.toNat % 256 := by
  simp only [opField, BitVec.extractLsb'_toNat, Nat.shiftRight_zero, Nat.reducePow]

theorem midField_eq_div_mod (w : Word) : midField w = w.toNat / 256 % 8 := by
  simp only [midField, BitVec.extractLsb'_toNat, Nat.shiftRight_eq_div_pow, Nat.reducePow]

theorem reservedField_eq_div (w : Word) : reservedField w = w.toNat / 2048 := by
  have hw : w.toNat < 2 ^ 32 := w.isLt
  simp only [reservedField, BitVec.extractLsb'_toNat, Nat.shiftRight_eq_div_pow, Nat.reducePow]
  omega

/-! ### The fields of the assembled word -/

theorem Instr.wellFormed_iff_midOf_lt {i : Instr} : i.wellFormed = true ↔ midOf i < 8 := by
  cases i with
  | maskApply m | formatEmbed m => exact decide_eq_true_iff
  | nop | gfLog | gfExp | rsGen | rsEnc | streamBuild | frameBuild | place | maskScore | maskSelect | sessionBegin
  | encode => decide

theorem opcodeOf_lt (i : Instr) : opcodeOf i < 256 := by
  cases i <;> simp only [opcodeOf, Nat.reduceLT]

/-- OP and MID do not overlap, so the OR of R106 is a sum. -/
theorem toNat_encode {i : Instr} (h : i.wellFormed = true) : (encode i).toNat = 256 * midOf i + opcodeOf i := by
  have hmid : midOf i < 8 := Instr.wellFormed_iff_midOf_lt.mp h
  have hop : opcodeOf i < 2 ^ 8 := opcodeOf_lt i
  simp (disch := omega) only [encode, BitVec.toNat_or, BitVec.toNat_shiftLeft, BitVec.toNat_ofNat, Nat.shiftLeft_eq,
    Nat.mod_eq_of_lt]
  rw [Nat.or_comm, Nat.mul_comm]
  exact (Nat.two_pow_add_eq_or_of_lt hop (midOf i)).symm

/-- A word is the assembled word of a well-formed command iff its fields are that command's (R100, R106). -/
theorem encode_eq_iff_fields {i : Instr} (h : i.wellFormed = true) {w : Word} :
    encode i = w ↔ reservedField w = 0 ∧ opField w = opcodeOf i ∧ midField w = midOf i := by
  have hmid : midOf i < 8 := Instr.wellFormed_iff_midOf_lt.mp h
  have hop : opcodeOf i < 256 := opcodeOf_lt i
  rw [← BitVec.toNat_inj, toNat_encode h, reservedField_eq_div, opField_eq_mod, midField_eq_div_mod]
  omega

/-! ### The decoder -/

theorem plainCommand_eq_ok_iff {w : Word} {i j : Instr} : plainCommand w j = .ok i ↔ midField w = 0 ∧ j = i := by
  unfold plainCommand; split <;> simp_all

theorem exists_plainCommand_eq_error_iff {w : Word} {i : Instr} :
    (∃ c, plainCommand w i = .error c) ↔ midField w ≠ 0 := by
  unfold plainCommand; split <;> simp_all

/-- The opcode map (R102): OP selects the command, and MID is the command's own. -/
theorem decodeOp_eq_ok_iff {w : Word} {i : Instr} :
    decodeOp w = .ok i ↔ opField w = opcodeOf i ∧ midField w = midOf i := by
  constructor
  · intro h
    unfold decodeOp at h
    split at h
    -- the rows with MID, then no row, then the rows whose MID must be 0
    case h_9 hop | h_12 hop => cases h; exact ⟨hop, rfl⟩
    case h_15 => cases h
    all_goals
      rename_i hop
      obtain ⟨hmid, rfl⟩ := plainCommand_eq_ok_iff.mp h
      exact ⟨hop, hmid⟩
  · rintro ⟨hop, hmid⟩
    unfold decodeOp
    cases i with
    | maskApply m | formatEmbed m => rw [hop, hmid]; rfl
    | nop | gfLog | gfExp | rsGen | rsEnc | streamBuild | frameBuild | place | maskScore | maskSelect | sessionBegin
    | encode => rw [hop]; exact plainCommand_eq_ok_iff.mpr ⟨hmid, rfl⟩

theorem decode_eq_ok_iff_fields {w : Word} {i : Instr} :
    decode w = .ok i ↔ reservedField w = 0 ∧ opField w = opcodeOf i ∧ midField w = midOf i := by
  unfold decode
  split
  case isTrue h => rw [decodeOp_eq_ok_iff]; exact (and_iff_right h).symm
  case isFalse h => exact iff_of_false nofun fun hw => h hw.1

/-- The decoder and the encoder are one relation between words and well-formed commands. -/
theorem decode_eq_ok_iff {w : Word} {i : Instr} : decode w = .ok i ↔ i.wellFormed = true ∧ encode i = w := by
  have hwf (hmid : midField w = midOf i) : i.wellFormed = true := by
    rw [Instr.wellFormed_iff_midOf_lt, ← hmid]
    exact BitVec.isLt _
  rw [decode_eq_ok_iff_fields]
  constructor
  · rintro ⟨hres, hop, hmid⟩
    exact ⟨hwf hmid, (encode_eq_iff_fields (hwf hmid)).mpr ⟨hres, hop, hmid⟩⟩
  · rintro ⟨h, hw⟩
    exact (encode_eq_iff_fields h).mp hw

/-- Settles O1: the assembled word has its command's fields and no reserved bit, and these select that command
(`decode_eq_ok_iff`). -/
theorem encodeThenDecode : Obligations.EncodeThenDecode := by
  unfold Obligations.EncodeThenDecode
  exact fun i h => decode_eq_ok_iff.mpr ⟨h, rfl⟩

/-- Settles O2: a word's fields are those of its command and nothing else is in it, so assembling gives it back. -/
theorem decodeThenEncode : Obligations.DecodeThenEncode := by
  unfold Obligations.DecodeThenEncode
  exact fun w i h => decode_eq_ok_iff.mp h

/-- Settles O4, by evaluating the decoder on each word. -/
theorem specWordsDecode : Obligations.SpecWordsDecode := by
  unfold Obligations.SpecWordsDecode
  decide

/-! ### Illegal words -/

theorem opField_eq_iff {w : Word} {n : Nat} (hn : n < 256) : opField w = n ↔ w.extractLsb' 0 8 = BitVec.ofNat 8 n := by
  rw [opField, ← BitVec.toNat_inj, BitVec.toNat_ofNat, Nat.mod_eq_of_lt hn]

theorem midField_eq_zero_iff {w : Word} : midField w = 0 ↔ w.extractLsb' 8 3 = 0#3 := BitVec.toNat_inj (y := 0#3)

theorem reservedField_eq_zero_iff {w : Word} : reservedField w = 0 ↔ w.extractLsb' 11 21 = 0#21 :=
  BitVec.toNat_inj (y := 0#21)

/-- The opcodes of the map (R102). -/
def opcodes : List (BitVec 8) :=
  [0x00#8, 0x01#8, 0x02#8, 0x10#8, 0x11#8, 0x20#8, 0x30#8, 0x40#8, 0x50#8, 0x51#8, 0x52#8, 0x60#8, 0x70#8, 0x7F#8]

/-- Cases (a) and (c) of R103: the row of OP decides, a row without MID by its check. -/
theorem exists_decodeOp_eq_error_iff {w : Word} :
    (∃ c, decodeOp w = .error c) ↔
      w.extractLsb' 0 8 ∉ opcodes ∨ (w.extractLsb' 0 8 ∉ [0x50#8, 0x60#8] ∧ w.extractLsb' 8 3 ≠ 0#3) := by
  unfold decodeOp
  split
  -- the rows with MID, then no row, then the rows whose MID must be 0
  case h_9 hop | h_12 hop =>
    rw [opField_eq_iff (by decide)] at hop
    simp [hop, opcodes]
  case h_15 =>
    refine iff_of_true ⟨_, rfl⟩ (.inl ?_)
    simp_all [opcodes, opField_eq_iff]
  all_goals
    rename_i hop
    rw [opField_eq_iff (by decide)] at hop
    simp [hop, opcodes, exists_plainCommand_eq_error_iff, midField_eq_zero_iff]

/-- The three cases of R103. -/
theorem exists_decode_eq_error_iff {w : Word} :
    (∃ c, decode w = .error c) ↔
      w.extractLsb' 0 8 ∉ opcodes ∨ w.extractLsb' 11 21 ≠ 0#21 ∨
        (w.extractLsb' 0 8 ∉ [0x50#8, 0x60#8] ∧ w.extractLsb' 8 3 ≠ 0#3) := by
  unfold decode
  split
  case isTrue h =>
    rw [exists_decodeOp_eq_error_iff]
    exact or_congr_right (or_iff_right fun hres => hres (reservedField_eq_zero_iff.mp h)).symm
  case isFalse h => exact iff_of_true ⟨_, rfl⟩ (.inr (.inl (mt reservedField_eq_zero_iff.mpr h)))

end Sys2Proof

namespace Sys2Proof.Machine

/-! ### Acceptance to completion of an illegal word -/

/-- While idle, a pending write to CMD accepts its word (R28). -/
theorem step_of_cmdWrite {s : State} {w : Word} {rest : List Input} (hidle : s.seq = .idle)
    (hp : s.pending = .write 0x0000C w :: rest) : step s = .next (State.accept { s with pending := rest } w) := by
  rw [step_of_idle hidle, State.environmentTurn_of_pending_cons _ hp, State.input,
    State.busWrite_reg (s := { s with pending := rest }) _ hidle (w := 0x00C) (r := .cmd) (by decide) rfl, State.writeReg]

theorem State.accept_of_illegal {s : State} {w : Word} {c : Illegal} (hd : decode w = .error c) :
    s.accept w = { s with cmd := w, done := false, seq := .executing 0 } := by
  simp only [State.accept, State.nextLatency, State.latenciesAfter, hd]

/-- Settles O3: the decoder errs in the three cases of R103, and an illegal word waits for no latency, so the step after its
acceptance is the one that rejects it. -/
theorem illegalWords : Obligations.IllegalWords := by
  unfold Obligations.IllegalWords
  refine ⟨fun w => exists_decode_eq_error_iff, fun s w c rest hd hidle hp => ⟨?_, ?_⟩⟩
  · rw [step_of_cmdWrite hidle hp, State.accept_of_illegal hd]
  · exact step_of_illegal rfl hd

end Sys2Proof.Machine
end

section
/-! SUPPORT. GF(256) (40_gf.md): the two ROMs as powers of α = 2 and their logarithms, `gexp` on all exponents, `gmul` by a
power of α as repeated doubling, and from that the laws of the field. -/

namespace Sys2Proof.Machine

/-! ### The ROMs -/

/-- The multiply-by-2-with-reduction of R131 and R132. -/
def double (a : Byte) : Byte := (a <<< 1) ^^^ (if a.getLsbD 7 then 0x1D else 0)

theorem expRom_zero : expRom 0 = 1 := rfl

theorem expRom_255 : expRom 255 = 1 := rfl

theorem expRom_succ : ∀ i < 255, expRom (i + 1) = double (expRom i) := by decide +kernel

/-- LOG inverts EXP (R133). -/
theorem logRom_expRom : ∀ i < 255, (logRom (expRom i).toNat).toNat = i := by decide +kernel

/-- The index 255 of the sentinel LOG[0] is no exponent. -/
theorem expRom_ne_zero (i : Nat) (hi : i < 255) : expRom i ≠ 0 := by
  intro h
  have hlog := logRom_expRom i hi
  rw [h, show (logRom (0 : Byte).toNat).toNat = 255 from rfl] at hlog
  omega

theorem logRom_lt : ∀ x : Byte, x ≠ 0 → (logRom x.toNat).toNat < 255 := by decide +kernel

/-- EXP inverts LOG (R140). -/
theorem expRom_logRom : ∀ x : Byte, x ≠ 0 → expRom (logRom x.toNat).toNat = x := by decide +kernel

/-! ### Powers of α -/

theorem gexp_zero : gexp 0 = 1 := rfl

theorem gexp_ne_zero (n : Nat) : gexp n ≠ 0 := expRom_ne_zero _ (Nat.mod_lt n (by decide))

theorem gexp_succ (n : Nat) : gexp (n + 1) = double (gexp n) := by
  have hlt : n % 255 < 255 := Nat.mod_lt n (by decide)
  rw [gexp, gexp, ← expRom_succ _ hlt]
  by_cases hwrap : n % 255 = 254
  · rw [show (n + 1) % 255 = 0 by omega, hwrap, expRom_zero, expRom_255]
  · rw [show (n + 1) % 255 = n % 255 + 1 by omega]

theorem gexp_add (m n : Nat) : gexp (m + n) = double^[m] (gexp n) := by
  induction m with
  | zero => rw [Nat.zero_add, Function.iterate_zero_apply]
  | succ m ih => rw [Nat.succ_add, gexp_succ, ih, Function.iterate_succ_apply']

theorem toNat_logRom_gexp (n : Nat) : (logRom (gexp n).toNat).toNat = n % 255 :=
  logRom_expRom _ (Nat.mod_lt n (by decide))

theorem gexp_logRom {x : Byte} (h : x ≠ 0) : gexp (logRom x.toNat).toNat = x := by
  rw [gexp, Nat.mod_eq_of_lt (logRom_lt x h), expRom_logRom x h]

/-- A byte is 0 or a power of α. -/
theorem eq_zero_or_gexp (x : Byte) : x = 0 ∨ ∃ n, x = gexp n :=
  (em (x = 0)).imp_right fun h => ⟨_, (gexp_logRom h).symm⟩

/-! ### Multiplication -/

theorem gmul_zero (a : Byte) : gmul a 0 = 0 := if_pos (.inr rfl)

theorem zero_gmul (a : Byte) : gmul 0 a = 0 := if_pos (.inl rfl)

theorem gmul_gexp (m n : Nat) : gmul (gexp m) (gexp n) = gexp (m + n) := by
  rw [gmul, if_neg (not_or_intro (gexp_ne_zero m) (gexp_ne_zero n)), toNat_logRom_gexp, toNat_logRom_gexp, gexp, ← Nat.add_mod, gexp]

theorem gmul_comm (a b : Byte) : gmul a b = gmul b a := by
  simp only [gmul, or_comm, Nat.add_comm]

theorem gmul_one (a : Byte) : gmul a 1 = a := by
  obtain rfl | ⟨m, rfl⟩ := eq_zero_or_gexp a
  · rw [zero_gmul]
  · rw [← gexp_zero, gmul_gexp, Nat.add_zero]

theorem gmul_assoc (a b c : Byte) : gmul (gmul a b) c = gmul a (gmul b c) := by
  obtain rfl | ⟨l, rfl⟩ := eq_zero_or_gexp a
  · simp only [zero_gmul]
  obtain rfl | ⟨m, rfl⟩ := eq_zero_or_gexp b
  · simp only [zero_gmul, gmul_zero]
  obtain rfl | ⟨n, rfl⟩ := eq_zero_or_gexp c
  · simp only [gmul_zero]
  rw [gmul_gexp, gmul_gexp, gmul_gexp, gmul_gexp, Nat.add_assoc]

/-- The inverse of α^n is α^(255 − n), as α^255 = 1 (R132). -/
theorem exists_gmul_eq_one {a : Byte} (h : a ≠ 0) : ∃ d, gmul a d = 1 := by
  have hlt := logRom_lt a h
  refine ⟨gexp (255 - (logRom a.toNat).toNat), ?_⟩
  rw [← gexp_logRom h, gmul_gexp, toNat_logRom_gexp, Nat.mod_eq_of_lt hlt, Nat.add_sub_cancel' hlt.le]
  rfl

/-! ### Multiplication is linear -/

/-- The reduction depends linearly on the bit shifted out. -/
theorem reduction_xor : ∀ p q : Bool,
    (if (p ^^ q) then 0x1D else 0 : Byte) = (if p then 0x1D else 0) ^^^ (if q then 0x1D else 0) := by decide

theorem double_xor (b c : Byte) : double (b ^^^ c) = double b ^^^ double c := by
  have hshift : (b ^^^ c) <<< 1 = b <<< 1 ^^^ c <<< 1 := BitVec.shiftLeft_xor_distrib b c 1
  rw [double, double, double, hshift, BitVec.getLsbD_xor, reduction_xor]
  ac_rfl

theorem iterate_double_xor (m : Nat) (b c : Byte) : double^[m] (b ^^^ c) = double^[m] b ^^^ double^[m] c := by
  induction m with
  | zero => rfl
  | succ m ih => simp only [Function.iterate_succ_apply', ih, double_xor]

/-- Multiplying by α^m doubles m times. -/
theorem gexp_gmul (m : Nat) (b : Byte) : gmul (gexp m) b = double^[m] b := by
  obtain rfl | ⟨n, rfl⟩ := eq_zero_or_gexp b
  · rw [gmul_zero, Function.iterate_fixed rfl]
  · rw [gmul_gexp, gexp_add]

theorem gmul_xor (a b c : Byte) : gmul a (b ^^^ c) = gmul a b ^^^ gmul a c := by
  obtain rfl | ⟨m, rfl⟩ := eq_zero_or_gexp a
  · rw [zero_gmul, zero_gmul, zero_gmul]; rfl
  · simp only [gexp_gmul, iterate_double_xor]

theorem gmul_two (a : Byte) : gmul a 2 = double a := gmul_comm a 2 ▸ gexp_gmul 1 a

/-- Settles O29: every nonzero byte is a power of α, on which `gmul` adds exponents; it distributes over XOR since doubling
does. -/
theorem fieldMultiplication : Obligations.FieldMultiplication := by
  unfold Obligations.FieldMultiplication
  exact fun a b c =>
    ⟨gmul_comm a b, gmul_assoc a b c, gmul_xor a b c, gmul_one a, exists_gmul_eq_one, gmul_two a⟩

/-! ### GF_LOG and GF_EXP -/

theorem exec_gfLog (s : State) : exec .gfLog s = .next (gfLogEffect s).complete := rfl

theorem exec_gfExp (s : State) : exec .gfExp s = .next (gfExpEffect s).complete := rfl

/-- Settles O30: GF_LOG is its one write, completed. -/
theorem gfLogResult : Obligations.GfLogResult := by
  unfold Obligations.GfLogResult
  exact ⟨by decide, exec_gfLog⟩

/-- Settles O31: GF_EXP is its one write, completed, and no power of α is 0. -/
theorem gfExpResult : Obligations.GfExpResult := by
  unfold Obligations.GfExpResult
  exact ⟨by decide, fun s => ⟨exec_gfExp s, gexp_ne_zero s.arg0.toNat⟩⟩

theorem gexp_setWidth_logRom {x : Byte} (h : x ≠ 0) : gexp ((logRom x.toNat).setWidth 32).toNat = x := by
  rw [BitVec.toNat_setWidth_of_le (by decide), gexp_logRom h]

/-- Settles O28: the ROMs entry by entry, and the two commands by `gexp_setWidth_logRom`. -/
theorem logAndExpAreInverse : Obligations.LogAndExpAreInverse := by
  unfold Obligations.LogAndExpAreInverse
  refine ⟨⟨expRom_zero, fun i hi => expRom_succ i (by omega), expRom_255, logRom_expRom, rfl⟩,
    fun x hx => ⟨logRom_lt x hx, expRom_logRom x hx⟩,
    fun n hn => ⟨expRom n, expRom_ne_zero n hn, logRom_expRom n hn⟩, fun s x harg hx => ?commands⟩
  case commands =>
    refine ⟨_, _, exec_gfLog s, exec_gfExp _, ?_⟩
    have hlog : (gfLogEffect s).result = (logRom x.toNat).setWidth 32 := by rw [gfLogEffect, State.logOperand, harg]
    simp only [State.complete_result, gfExpEffect, State.expOperand, hlog, gexp_setWidth_logRom hx]

end Sys2Proof.Machine
end

section
/-! SUPPORT. GF(256) as the Reed–Solomon rules use it (40_gf.md R131, R136, R140): XOR and `gmul` rearranged, no zero divisors,
the powers of α below 255 apart, and lists of bytes under XOR, read with 0 past their end. -/

namespace Sys2Proof.Machine

/-! ### XOR and multiplication -/

theorem zero_xor_byte (a : Byte) : 0 ^^^ a = a := BitVec.zero_xor

theorem xor_self_byte (a : Byte) : a ^^^ a = 0 := BitVec.xor_self

theorem xor_left_self (a b : Byte) : a ^^^ (a ^^^ b) = b := by
  rw [← BitVec.xor_assoc, xor_self_byte, zero_xor_byte]

theorem xor_left_comm (a b c : Byte) : a ^^^ (b ^^^ c) = b ^^^ (a ^^^ c) := by ac_rfl

theorem xor_gmul (a b c : Byte) : gmul (a ^^^ b) c = gmul a c ^^^ gmul b c := by
  rw [gmul_comm, gmul_xor, gmul_comm c a, gmul_comm c b]

theorem gmul_left_comm (a b c : Byte) : gmul a (gmul b c) = gmul b (gmul a c) := by
  rw [← gmul_assoc, gmul_comm a b, gmul_assoc]

theorem gmul_ne_zero {a b : Byte} (ha : a ≠ 0) (hb : b ≠ 0) : gmul a b ≠ 0 := by
  rw [gmul, if_neg (not_or_intro ha hb)]
  exact gexp_ne_zero _

/-- Multiplication through the logarithms (R136, without its test for zero). -/
theorem gexp_add_logRom {a b : Byte} (ha : a ≠ 0) (hb : b ≠ 0) :
    gexp ((logRom a.toNat).toNat + (logRom b.toNat).toNat) = gmul a b :=
  (if_neg (not_or_intro ha hb)).symm

theorem gexp_of_lt {i : Nat} (h : i < 255) : gexp i = expRom i := by rw [gexp, Nat.mod_eq_of_lt h]

theorem gexp_inj {m n : Nat} (hm : m < 255) (hn : n < 255) (h : gexp m = gexp n) : m = n := by
  rw [← Nat.mod_eq_of_lt hm, ← Nat.mod_eq_of_lt hn, ← toNat_logRom_gexp, ← toNat_logRom_gexp, h]

/-- LOG[0] = 255 is no logarithm (R140). -/
theorem logRom_eq_255_iff {x : Byte} : logRom x.toNat = 255 ↔ x = 0 := by
  refine ⟨fun h => by_contra fun hx => ?_, fun h => h ▸ rfl⟩
  exact absurd (congrArg BitVec.toNat h) (logRom_lt x hx).ne

/-! ### Lists of bytes -/

theorem ext_getD_zero {a b : List Byte} (hlen : a.length = b.length) (h : ∀ k, a.getD k 0 = b.getD k 0) : a = b :=
  List.ext_getElem hlen fun k ha hb => by rw [← List.getD_eq_getElem a 0 ha, h, List.getD_eq_getElem b 0 hb]

theorem length_zipWith_xor {a b : List Byte} (h : a.length = b.length) :
    (List.zipWith (· ^^^ ·) a b).length = a.length := by
  rw [List.length_zipWith, h, Nat.min_self]

theorem getD_zipWith_xor {a b : List Byte} (h : a.length = b.length) (k : Nat) :
    (List.zipWith (· ^^^ ·) a b).getD k 0 = a.getD k 0 ^^^ b.getD k 0 := by
  induction a generalizing b k with
  | nil => rw [List.length_eq_zero_iff.mp h.symm]; exact (xor_self_byte 0).symm
  | cons x a ih =>
    cases b with
    | nil => cases h
    | cons y b => cases k with
      | zero => rfl
      | succ k => exact ih (Nat.succ.inj h) k

theorem getD_map_gmul (f : Byte) (a : List Byte) (k : Nat) : (a.map (gmul f)).getD k 0 = gmul f (a.getD k 0) := by
  rw [← List.getD_map a 0 (gmul f), gmul_zero]

theorem getD_append_zero (a : List Byte) (k : Nat) : (a ++ [0]).getD k 0 = a.getD k 0 := by
  obtain hk | hk := Nat.lt_or_ge k a.length
  · exact List.getD_append a [0] 0 k hk
  · rw [List.getD_append_right a [0] 0 k hk, List.getD_eq_default _ _ hk, List.getD_eq_getElem?_getD,
      List.getElem?_getD_singleton_default_eq]

end Sys2Proof.Machine
end

section
/-! SUPPORT. The generator polynomial (41_rs.md R150–R153): its coefficients by the recurrence of R153, its values as a product
over its roots, and why no coefficient is 0. -/

namespace Sys2Proof.Machine

/-! ### One more root -/

theorem getD_timesRoot (c : List Byte) (r : Byte) (k : Nat) :
    (timesRoot c r).getD k 0 = (0 :: c).getD k 0 ^^^ gmul (c.getD k 0) r := by
  simp only [timesRoot, gmul_comm _ r]
  rw [getD_zipWith_xor (by rw [List.length_append, List.length_map]; rfl), getD_append_zero, getD_map_gmul]

theorem polyAt_nil (x : Byte) : polyAt [] x = 0 := rfl

theorem polyAt_cons (a : Byte) (c : List Byte) (x : Byte) : polyAt (a :: c) x = a ^^^ gmul (polyAt c x) x := rfl

/-- `polyAt_timesRoot` for a row that starts with any byte `b` in place of 0, which is what the induction meets. -/
theorem polyAt_zipWith_shift (c : List Byte) (b r x : Byte) :
    polyAt (List.zipWith (· ^^^ ·) (b :: c) (c.map (fun a => gmul a r) ++ [0])) x =
      b ^^^ gmul (polyAt c x) (x ^^^ r) := by
  induction c generalizing b with
  | nil =>
    rw [List.map_nil, List.nil_append, List.zipWith_cons_cons, List.zipWith_nil_left, polyAt_cons, polyAt_nil, zero_gmul,
      zero_gmul, BitVec.xor_assoc, xor_self_byte]
  | cons a c ih =>
    rw [List.map_cons, List.cons_append, List.zipWith_cons_cons, polyAt_cons, ih, polyAt_cons]
    simp only [xor_gmul, gmul_xor, gmul_assoc, gmul_comm r x]
    ac_rfl

theorem polyAt_timesRoot (c : List Byte) (r x : Byte) : polyAt (timesRoot c r) x = gmul (polyAt c x) (x ^^^ r) := by
  rw [timesRoot, polyAt_zipWith_shift, zero_xor_byte]

/-- The generator vanishes at its roots. -/
theorem polyAt_genPoly_expRom {e i : Nat} (h : i < e) : polyAt (genPoly e) (expRom i) = 0 := by
  induction e with
  | zero => omega
  | succ e ih =>
    rw [genPoly, polyAt_timesRoot]
    obtain hlt | rfl := Nat.lt_succ_iff_lt_or_eq.mp h
    · rw [ih hlt, zero_gmul]
    · rw [xor_self_byte, gmul_zero]

/-! ### The coefficients -/

theorem getD_genPoly_succ (e k : Nat) :
    (genPoly (e + 1)).getD k 0 = (0 :: genPoly e).getD k 0 ^^^ gmul ((genPoly e).getD k 0) (expRom e) :=
  getD_timesRoot _ _ _

/-- The generator is monic. -/
theorem getD_genPoly_self (e : Nat) : (genPoly e).getD e 0 = 1 := by
  induction e with
  | zero => rfl
  | succ e ih =>
    rw [getD_genPoly_succ, List.getD_cons_succ, ih, List.getD_eq_default _ _ (by rw [length_genPoly]), zero_gmul]
    rfl

/-- The constant term is α^(0 + 1 + … + (e − 1)). -/
theorem getD_genPoly_zero {e : Nat} (he : e ≤ 255) : (genPoly e).getD 0 0 = gexp (e * (e - 1) / 2) := by
  induction e with
  | zero => rfl
  | succ e ih =>
    rw [getD_genPoly_succ, List.getD_cons_zero, zero_xor_byte, ih (by omega), ← gexp_of_lt (i := e) (by omega), gmul_gexp,
      ← Nat.triangle_succ]

/-- The step of `genPoly_ratio`: u, v, w are neighbouring coefficients, a = α^e, b = α^k, q = α. -/
theorem ratio_step {a b q u v w : Byte} (hv : gmul v (gmul (b ^^^ 1) a) = gmul u (gmul a q ^^^ b))
    (hw : gmul w (gmul (gmul b q ^^^ 1) a) = gmul v (gmul a q ^^^ gmul b q)) :
    gmul (v ^^^ gmul w a) (gmul (gmul b q ^^^ 1) (gmul a q)) =
      gmul (u ^^^ gmul v a) (gmul (gmul a q) q ^^^ gmul b q) := by
  calc
    _ = gmul v (gmul (gmul b q ^^^ 1) (gmul a q)) ^^^ gmul (gmul w (gmul (gmul b q ^^^ 1) a)) (gmul a q) := by
      rw [xor_gmul, gmul_assoc w, gmul_assoc w, gmul_assoc (_ ^^^ 1), gmul_left_comm a]
    _ = gmul (gmul v (gmul (b ^^^ 1) a)) q ^^^ gmul (gmul v a) (gmul (gmul a q) q ^^^ gmul b q) := by
      rw [hw]
      simp only [gmul_xor, gmul_one, gmul_comm, gmul_left_comm, BitVec.xor_assoc, BitVec.xor_comm, xor_left_comm,
        xor_left_self, xor_self_byte, zero_xor_byte]
    _ = _ := by rw [hv, xor_gmul, gmul_assoc, xor_gmul]

/-- Neighbouring coefficients: c_k·(α^k + 1)·α^e = c_(k−1)·(α^(e+1) + α^k), the coefficients shifted by one so that c_(−1) = 0
stands first. -/
theorem genPoly_ratio {e : Nat} (he : e ≤ 255) (k : Nat) :
    gmul ((0 :: genPoly e).getD (k + 1) 0) (gmul (gexp k ^^^ 1) (gexp e)) =
      gmul ((0 :: genPoly e).getD k 0) (gmul (gexp e) (gexp 1) ^^^ gexp k) := by
  induction e generalizing k with
  | zero =>
    match k with
    | 0 => rfl
    | 1 => rfl
    | k + 2 => exact (zero_gmul _).trans (zero_gmul _).symm
  | succ e ih =>
    cases k with
    | zero => rw [gexp_zero, xor_self_byte, zero_gmul, gmul_zero, List.getD_cons_zero, zero_gmul]
    | succ k =>
      rw [List.getD_cons_succ, List.getD_cons_succ, getD_genPoly_succ, getD_genPoly_succ, ← gexp_of_lt (by omega),
        ← gmul_gexp k 1, ← gmul_gexp e 1]
      refine ratio_step ?_ ?_
      · exact ih (by omega) k
      · have hnext := ih (by omega) (k + 1)
        rwa [List.getD_cons_succ, ← gmul_gexp k 1] at hnext

/-- From c_0 up: the ratio is not 0, as α^(e+1) and α^(k+1) are apart. -/
theorem getD_genPoly_ne_zero {e k : Nat} (he : e < 254) (hk : k ≤ e) : (genPoly e).getD k 0 ≠ 0 := by
  induction k with
  | zero => rw [getD_genPoly_zero (by omega)]; exact gexp_ne_zero _
  | succ k ih =>
    intro hzero
    have hratio := genPoly_ratio (e := e) (by omega) (k + 1)
    rw [List.getD_cons_succ, List.getD_cons_succ, hzero, zero_gmul, gmul_gexp] at hratio
    refine gmul_ne_zero (ih (by omega)) (fun h => ?_) hratio.symm
    have hexponents : e + 1 = k + 1 := gexp_inj (by omega) (by omega) (BitVec.xor_eq_zero_iff.mp h)
    omega

theorem ne_zero_of_mem_genPoly {e : Nat} (he : e < 254) {c : Byte} (hc : c ∈ genPoly e) : c ≠ 0 := by
  obtain ⟨k, hk, rfl⟩ := List.getElem_of_mem hc
  rw [← List.getD_eq_getElem _ 0 hk]
  exact getD_genPoly_ne_zero he (by rw [length_genPoly] at hk; omega)

theorem getD_genImage {e k : Nat} (hk : k ≤ e) : (genImage e).getD k 0 = logRom ((genPoly e).getD k 0).toNat := by
  have hlt : k < (genPoly e).length := by rw [length_genPoly]; omega
  rw [genImage, List.getD_eq_getElem _ 0 (by rwa [List.length_map]), List.getElem_map, List.getD_eq_getElem _ 0 hlt]

/-- Settles O32: each root is a factor, the constant term is the product of the roots, and the ratio of neighbouring
coefficients is never 0. -/
theorem generatorPolynomial : Obligations.GeneratorPolynomial := by
  unfold Obligations.GeneratorPolynomial
  intro e _ he
  refine ⟨length_genPoly e, getD_genPoly_self e, fun c => ne_zero_of_mem_genPoly (by omega), fun i hi => ?_, ?_⟩
  · rw [gexp_of_lt (by omega), polyAt_genPoly_expRom hi]
  · rw [getD_genImage (Nat.zero_le e), getD_genPoly_zero (by omega), toNat_logRom_gexp]

end Sys2Proof.Machine
end

section
/-! SUPPORT. RS_GEN and RS_ENC (41_rs.md R153, R155): the run of bytes each writes, and nothing else. -/

namespace Sys2Proof.Machine

theorem Ram.addr_add (r : Ram) (i k : Nat) : r.addr i + 4 * k = r.addr (i + k) := by
  unfold Ram.addr; omega

theorem exec_rsGen {s : State} (h : 1 ≤ s.genDegree ∧ s.genDegree ≤ 68) :
    exec .rsGen s = .next (rsGenEffect s).complete := by
  rw [show exec .rsGen s = execRsGen s from rfl, execRsGen, rsGenCheck_eq_none.mpr h, guarded_none, outcome_done]

theorem exec_rsEnc {s : State} (hgen : s.genValid = true) (hsrc : s.encSource + s.encLength ≤ 4096)
    (hdst : s.encDest + s.encDegree ≤ 4096) : exec .rsEnc s = .next (rsEncEffect s).complete := by
  rw [show exec .rsEnc s = execRsEnc s from rfl, execRsEnc, rsEncCheck_eq_none.mpr ⟨hgen, hsrc, hdst⟩, guarded_none,
    outcome_done]

/-- A byte outside the run written at byte `start` of a RAM. -/
theorem Memory.byte_storeBytes_of_ne_addr (f : Nat) (m : Memory) (r : Ram) (start : Nat) (bs : List Byte) {a : Nat}
    (h : ∀ k < bs.length, a ≠ r.addr (start + k)) :
    Memory.byte f (Memory.storeBytes m (r.addr start) bs) a = Memory.byte f m a :=
  Memory.byte_storeBytes_of_ne f bs m _ fun k hk => Ram.addr_add r start k ▸ h k hk

/-- Settles O33: RS_GEN stores the image of the generator at GEN[0], and sets GEN_LEN and GEN_VALID. -/
theorem rsGenResult : Obligations.RsGenResult := by
  unfold Obligations.RsGenResult
  rintro s e rfl hlo hhi
  refine ⟨_, exec_rsGen ⟨hlo, hhi⟩, rfl, fun k hk => ?_, fun a ha => ?_⟩
  · exact (Memory.byte_genImage _ _ hk).trans (getD_genImage hk)
  · refine Memory.byte_storeBytes_of_ne_addr _ _ _ _ _ fun k hk => ?_
    rw [length_genImage] at hk
    rw [Nat.zero_add]
    exact ha k (Nat.le_of_lt_succ hk)

/-- Settles O34: RS_ENC stores the ECC bytes of the source range, computed from the memory before the write, at dst. -/
theorem rsEncResult : Obligations.RsEncResult := by
  unfold Obligations.RsEncResult
  rintro s src dst n e rfl rfl rfl rfl hgen hsrc hdst
  have hbytes : s.encoded = rsEncode ((List.range s.genLen.toNat).map fun j => s.ram .gen j) s.genLen.toNat
      ((List.range (s.arg2.extractLsb' 0 8).toNat).map fun j => s.ram .stream ((s.arg0.extractLsb' 0 12).toNat + j)) := by
    simp only [State.encoded, State.ramBytes, Nat.zero_add]
    rfl
  refine ⟨_, exec_rsEnc hgen hsrc hdst, rfl, fun k hk => ?_, fun a ha => ?_⟩
  · have hlt : k < s.encoded.length := by rwa [length_encoded]
    rw [← hbytes, State.ram, ← Ram.addr_add]
    exact Memory.byte_storeBytes_at _ _ _ _ _ hlt
  · refine Memory.byte_storeBytes_of_ne_addr _ _ _ _ _ fun k hk => ha k ?_
    rwa [length_encoded] at hk

end Sys2Proof.Machine
end

section
/-! SUPPORT. The encoder as division by the generator (41_rs.md R150, R154, R156): the LFSR step on coefficients instead of
their logarithms, the value of a codeword byte by byte, and linearity. -/

namespace Sys2Proof.Machine

/-! ### The step of the LFSR without logarithms -/

/-- One data byte through the LFSR: the register shifted, plus the feedback times the coefficients `cs`, leading first. -/
def divStep (cs reg : List Byte) (d : Byte) : List Byte :=
  List.zipWith (· ^^^ ·) (reg ++ [0]).tail (cs.map (gmul (d ^^^ reg.headD 0)))

/-- The coefficients of the generator below its leading 1, leading first. -/
def genTail (e : Nat) : List Byte := ((genPoly e).take e).reverse

theorem length_genTail (e : Nat) : (genTail e).length = e := by
  rw [genTail, List.length_reverse, List.length_take, length_genPoly, Nat.min_eq_left (Nat.le_succ e)]

theorem reverse_genPoly (e : Nat) : (genPoly e).reverse = 1 :: genTail e := by
  have hlt : e < (genPoly e).length := by rw [length_genPoly]; omega
  have hone : (genPoly e)[e] = 1 := by rw [← List.getD_eq_getElem _ 0 hlt, getD_genPoly_self]
  have hall : (genPoly e).take e ++ [1] = genPoly e := by
    rw [← hone, List.take_append_getElem hlt, List.take_of_length_le (by rw [length_genPoly])]
  calc
    _ = ((genPoly e).take e ++ [1]).reverse := by rw [hall]
    _ = _ := List.reverse_append

/-- The GEN bytes the encoder uses, in its order. -/
theorem reverse_take_genImage (e : Nat) : ((genImage e).take e).reverse = (genTail e).map fun c => logRom c.toNat := by
  rw [genImage, ← List.map_take, ← List.map_reverse, genTail]

theorem length_tail_append_zero (reg : List Byte) : (reg ++ [0]).tail.length = reg.length := by
  rw [List.length_tail, List.length_append]; rfl

theorem length_divStep {cs reg : List Byte} (h : cs.length = reg.length) (d : Byte) :
    (divStep cs reg d).length = reg.length := by
  rw [divStep, length_zipWith_xor] <;> rw [length_tail_append_zero]
  rw [List.length_map, h]

theorem zipWith_xor_map_zero_gmul {a b : List Byte} (h : a.length = b.length) :
    List.zipWith (· ^^^ ·) a (b.map (gmul 0)) = a := by
  have hlen : a.length = (b.map (gmul 0)).length := by rw [List.length_map, h]
  refine ext_getD_zero (length_zipWith_xor hlen) fun k => ?_
  rw [getD_zipWith_xor hlen, getD_map_gmul, zero_gmul]
  exact BitVec.xor_zero

/-- The logarithms of nonzero coefficients give the step on the coefficients; the sentinel 255 stands for the feedback 0. -/
theorem lfsrStep_map_logRom {cs reg : List Byte} (hcs : ∀ c ∈ cs, c ≠ 0) (h : cs.length = reg.length) (d : Byte) :
    lfsrStep (cs.map fun c => logRom c.toNat) reg d = divStep cs reg d := by
  rw [lfsrStep, divStep]
  by_cases hf : d ^^^ reg.headD 0 = 0
  · rw [hf, zipWith_xor_map_zero_gmul (by rw [length_tail_append_zero, h])]
    rfl
  · have hproducts := List.map_congr_left fun c hc => gexp_add_logRom hf (hcs c hc)
    rw [if_neg (mt logRom_eq_255_iff.mp hf), List.zipWith_map_right, ← hproducts, List.zipWith_map_right]

theorem foldl_lfsrStep_map_logRom {cs reg : List Byte} (hcs : ∀ c ∈ cs, c ≠ 0) (h : cs.length = reg.length)
    (data : List Byte) :
    data.foldl (lfsrStep (cs.map fun c => logRom c.toNat)) reg = data.foldl (divStep cs) reg := by
  induction data generalizing reg with
  | nil => rfl
  | cons d ds ih =>
    rw [List.foldl_cons, List.foldl_cons, lfsrStep_map_logRom hcs h, ih (by rw [length_divStep h, h])]

/-- The encoder on the coefficients of the generator. -/
theorem rsEncode_genImage {e : Nat} (he : e < 254) (data : List Byte) :
    rsEncode (genImage e) e data = data.foldl (divStep (genTail e)) (List.replicate e 0) := by
  have hcs : ∀ c ∈ genTail e, c ≠ 0 := fun c hc =>
    ne_zero_of_mem_genPoly he (List.mem_of_mem_take (List.mem_reverse.mp hc))
  rw [rsEncode, reverse_take_genImage, foldl_lfsrStep_map_logRom hcs (by rw [length_genTail, List.length_replicate])]

/-! ### Codewords -/

/-- `codewordAt` continued from the value `v` of the bytes before. -/
def codewordFrom (x v : Byte) (ws : List Byte) : Byte := ws.foldl (fun v w => gmul v x ^^^ w) v

theorem codewordAt_eq_codewordFrom (ws : List Byte) (x : Byte) : codewordAt ws x = codewordFrom x 0 ws := rfl

theorem codewordFrom_cons (x v w : Byte) (ws : List Byte) :
    codewordFrom x v (w :: ws) = codewordFrom x (gmul v x ^^^ w) ws := rfl

theorem codewordFrom_append_singleton (x v w : Byte) (ws : List Byte) :
    codewordFrom x v (ws ++ [w]) = gmul (codewordFrom x v ws) x ^^^ w := by
  rw [codewordFrom, List.foldl_append]; rfl

theorem codewordFrom_zipWith_xor {a b : List Byte} (h : a.length = b.length) (x u v : Byte) :
    codewordFrom x (u ^^^ v) (List.zipWith (· ^^^ ·) a b) = codewordFrom x u a ^^^ codewordFrom x v b := by
  induction a generalizing b u v with
  | nil => rw [List.length_eq_zero_iff.mp h.symm]; rfl
  | cons y a ih =>
    cases b with
    | nil => cases h
    | cons z b =>
      rw [List.zipWith_cons_cons, codewordFrom_cons, codewordFrom_cons, codewordFrom_cons, ← ih (Nat.succ.inj h), xor_gmul]
      congr 1
      ac_rfl

theorem codewordFrom_map_gmul (f x v : Byte) (ws : List Byte) :
    codewordFrom x (gmul f v) (ws.map (gmul f)) = gmul f (codewordFrom x v ws) := by
  induction ws generalizing v with
  | nil => rfl
  | cons w ws ih => rw [List.map_cons, codewordFrom_cons, codewordFrom_cons, ← ih, gmul_xor, gmul_assoc]

theorem codewordFrom_replicate_zero (x : Byte) (n : Nat) : codewordFrom x 0 (List.replicate n 0) = 0 := by
  induction n with
  | zero => rfl
  | succ n ih => rw [List.replicate_succ, codewordFrom_cons, zero_gmul, xor_self_byte, ih]

/-- A codeword of coefficients is their polynomial. -/
theorem codewordAt_reverse (cs : List Byte) (x : Byte) : codewordAt cs.reverse x = polyAt cs x := by
  rw [codewordAt, List.foldl_reverse, polyAt]
  simp only [BitVec.xor_comm]

theorem codewordFrom_one_genTail (e : Nat) (x : Byte) : codewordFrom x 1 (genTail e) = polyAt (genPoly e) x := by
  rw [← codewordAt_reverse, reverse_genPoly, codewordAt_eq_codewordFrom, codewordFrom_cons, zero_gmul, zero_xor_byte]

/-- At a root of the divisor 1, `cs`, the step keeps the value 0 of what has passed followed by the register. -/
theorem codewordFrom_divStep {cs reg : List Byte} {x v : Byte} (h : cs.length = reg.length) (hroot : codewordFrom x 1 cs = 0)
    (hv : codewordFrom x v reg = 0) (d : Byte) : codewordFrom x (gmul v x ^^^ d) (divStep cs reg d) = 0 := by
  cases reg with
  | nil =>
    rw [List.length_eq_zero_iff.mp h] at hroot
    exact absurd (show (1 : Byte) = 0 from hroot) (by decide)
  | cons r rs =>
    rw [codewordFrom_cons] at hv
    have hsplit : gmul v x ^^^ d = (gmul v x ^^^ r) ^^^ gmul (d ^^^ r) 1 := by
      rw [gmul_one, BitVec.xor_comm d, BitVec.xor_assoc, xor_left_self]
    rw [hsplit, divStep, codewordFrom_zipWith_xor, List.headD_cons, codewordFrom_map_gmul, hroot, List.cons_append,
      List.tail_cons, codewordFrom_append_singleton, hv, zero_gmul, gmul_zero]
    · rfl
    · rw [length_tail_append_zero, List.length_map, h]

theorem codewordFrom_append_divide {cs reg : List Byte} {x v : Byte} (h : cs.length = reg.length)
    (hroot : codewordFrom x 1 cs = 0) (hv : codewordFrom x v reg = 0) (data : List Byte) :
    codewordFrom x v (data ++ data.foldl (divStep cs) reg) = 0 := by
  induction data generalizing v reg with
  | nil => exact hv
  | cons d ds ih =>
    rw [List.foldl_cons, List.cons_append, codewordFrom_cons]
    exact ih (by rw [length_divStep h, h]) (codewordFrom_divStep h hroot hv d)

/-- Settles O35: at a root of the generator, data followed by the register keeps the value 0 through every step. -/
theorem codewordsHaveGeneratorRoots : Obligations.CodewordsHaveGeneratorRoots := by
  unfold Obligations.CodewordsHaveGeneratorRoots
  intro e data _ he
  refine ⟨length_rsEncode data (by rw [length_genImage]; omega), fun i hi => ?_⟩
  have hroot : codewordFrom (gexp i) 1 (genTail e) = 0 := by
    rw [codewordFrom_one_genTail, gexp_of_lt (by omega), polyAt_genPoly_expRom hi]
  rw [rsEncode_genImage (by omega), codewordAt_eq_codewordFrom]
  exact codewordFrom_append_divide (by rw [length_genTail, List.length_replicate]) hroot (codewordFrom_replicate_zero _ e) data

/-! ### Linearity -/

theorem getD_divStep {cs reg : List Byte} (h : cs.length = reg.length) (d : Byte) (k : Nat) :
    (divStep cs reg d).getD k 0 = reg.getD (k + 1) 0 ^^^ gmul (d ^^^ reg.getD 0 0) (cs.getD k 0) := by
  have hshift : (reg ++ [0]).tail.getD k 0 = reg.getD (k + 1) 0 := by
    rw [← getD_append_zero reg, List.getD_eq_getElem?_getD, List.getElem?_tail, ← List.getD_eq_getElem?_getD]
  have hhead : reg.headD 0 = reg.getD 0 0 := by cases reg <;> rfl
  have hlen : (reg ++ [0]).tail.length = (cs.map (gmul (d ^^^ reg.getD 0 0))).length := by
    rw [length_tail_append_zero, List.length_map, h]
  rw [divStep, hhead, getD_zipWith_xor hlen, hshift, getD_map_gmul]

theorem divStep_xor {cs p q : List Byte} (hp : cs.length = p.length) (hq : cs.length = q.length) (c d : Byte) :
    divStep cs (List.zipWith (· ^^^ ·) p q) (c ^^^ d) = List.zipWith (· ^^^ ·) (divStep cs p c) (divStep cs q d) := by
  have hpq : p.length = q.length := hp.symm.trans hq
  have hsum : cs.length = (List.zipWith (· ^^^ ·) p q).length := by rw [length_zipWith_xor hpq, hp]
  have hsteps : (divStep cs p c).length = (divStep cs q d).length := by rw [length_divStep hp, length_divStep hq, hpq]
  refine ext_getD_zero ?_ fun k => ?_
  · rw [length_divStep hsum, ← hsum, length_zipWith_xor hsteps, length_divStep hp, hp]
  · rw [getD_divStep hsum, getD_zipWith_xor hpq, getD_zipWith_xor hpq, getD_zipWith_xor hsteps,
      getD_divStep hp, getD_divStep hq]
    simp only [xor_gmul]
    ac_rfl

theorem foldl_divStep_xor {cs p q a b : List Byte} (hp : cs.length = p.length) (hq : cs.length = q.length)
    (h : a.length = b.length) :
    (List.zipWith (· ^^^ ·) a b).foldl (divStep cs) (List.zipWith (· ^^^ ·) p q) =
      List.zipWith (· ^^^ ·) (a.foldl (divStep cs) p) (b.foldl (divStep cs) q) := by
  induction a generalizing b p q with
  | nil => rw [List.length_eq_zero_iff.mp h.symm]; rfl
  | cons c a ih =>
    cases b with
    | nil => cases h
    | cons d b =>
      rw [List.zipWith_cons_cons, List.foldl_cons, List.foldl_cons, List.foldl_cons, divStep_xor hp hq]
      exact ih (by rw [length_divStep hp, hp]) (by rw [length_divStep hq, hq]) (Nat.succ.inj h)

theorem zipWith_xor_self (a : List Byte) : List.zipWith (· ^^^ ·) a a = List.replicate a.length 0 := by
  rw [List.zipWith_self]; simp only [xor_self_byte, List.map_const']

theorem rsEncode_xor {e : Nat} (he : e < 254) {a b : List Byte} (h : a.length = b.length) :
    rsEncode (genImage e) e (List.zipWith (· ^^^ ·) a b) =
      List.zipWith (· ^^^ ·) (rsEncode (genImage e) e a) (rsEncode (genImage e) e b) := by
  have hzero : List.replicate e (0 : Byte) = List.zipWith (· ^^^ ·) (List.replicate e 0) (List.replicate e 0) := by
    rw [zipWith_xor_self, List.length_replicate]
  have hlen : (genTail e).length = (List.replicate e (0 : Byte)).length := by rw [length_genTail, List.length_replicate]
  rw [rsEncode_genImage he, rsEncode_genImage he, rsEncode_genImage he, ← foldl_divStep_xor hlen hlen h, ← hzero]

/-- Settles O36: each step of the LFSR is linear in the register and the data byte, and zero data is any data added to
itself. -/
theorem encoderIsLinear : Obligations.EncoderIsLinear := by
  unfold Obligations.EncoderIsLinear
  intro e a b _ he hab
  refine ⟨rsEncode_xor (by omega) hab, ?_⟩
  rw [← zipWith_xor_self, rsEncode_xor (by omega) rfl, zipWith_xor_self, length_rsEncode a (by rw [length_genImage]; omega)]

end Sys2Proof.Machine
end

section
/-! SUPPORT. The data codewords (42_stream.md R173, R175–R177): the bit string of header, payload and tail as nibbles, two
nibbles packed into each codeword, and the padding behind them. -/

namespace Sys2Proof.Machine

/-! ### Bits and nibbles -/

/-- The last four of a number's bits are those of its low nibble. -/
theorem bitsOf_add_four (w n : Nat) : bitsOf (w + 4) n = bitsOf w (n / 16) ++ bitsOf 4 (n % 16) := by
  rw [bitsOf, List.range_add, List.map_append, List.map_map]
  congr 1 <;> refine List.map_congr_left fun k hk => ?_ <;> rw [List.mem_range] at hk
  · rw [show 16 = 2 ^ 4 from rfl, Nat.testBit_div_two_pow]
    congr 1; omega
  · rw [show 16 = 2 ^ 4 from rfl, Nat.testBit_mod_two_pow, decide_eq_true (by omega), Bool.true_and, Function.comp_apply]
    congr 1; omega

theorem bitsOf_eight (n : Nat) : bitsOf 8 n = [n / 16 % 16, n % 16].flatMap (bitsOf 4) := by
  rw [bitsOf_add_four 4, bitsOf_add_four 0]; rfl

theorem bitsOf_sixteen (n : Nat) :
    bitsOf 16 n = [n / 4096 % 16, n / 256 % 16, n / 16 % 16, n % 16].flatMap (bitsOf 4) := by
  rw [bitsOf_add_four 12, bitsOf_add_four 8, bitsOf_add_four 4, bitsOf_add_four 0]
  simp only [Nat.div_div_eq_div_mul]
  rfl

theorem bytesToBits_eq_flatMap_nibbles (bs : List Byte) :
    bytesToBits bs = (bs.flatMap fun p => [p.toNat / 16, p.toNat % 16]).flatMap (bitsOf 4) := by
  rw [bytesToBits, List.flatMap_assoc]
  refine congrArg (List.flatMap · bs) (funext fun p => ?_)
  rw [bitsOf_eight, Nat.mod_eq_of_lt (by omega : p.toNat / 16 < 16)]

/-! ### Packing -/

/-- The codeword of two nibbles, the high one first. -/
def byteOfNibbles (a b : Nat) : Byte := (packBits (bitsOf 4 a ++ bitsOf 4 b)).headD 0

theorem toNat_byteOfNibbles : ∀ a < 16, ∀ b < 16, (byteOfNibbles a b).toNat = 16 * a + b := by decide

theorem packBits_nibbles (a b : Nat) (l : List Bool) :
    packBits (bitsOf 4 a ++ (bitsOf 4 b ++ l)) = byteOfNibbles a b :: packBits l := rfl

theorem length_packBits_nibbles {n : Nat} {ns : List Nat} (h : ns.length = 2 * n) :
    (packBits (ns.flatMap (bitsOf 4))).length = n := by
  induction n generalizing ns with
  | zero => rw [List.length_eq_zero_iff.mp h]; rfl
  | succ n ih =>
    match ns with
    | a :: b :: rest =>
      rw [List.flatMap_cons, List.flatMap_cons, packBits_nibbles, List.length_cons, ih (by simp at h; omega)]

theorem toNat_getD_packBits_nibbles {k : Nat} {ns : List Nat} (hk : 2 * k + 1 < ns.length) (hlt : ∀ n ∈ ns, n < 16) :
    ((packBits (ns.flatMap (bitsOf 4))).getD k 0).toNat = 16 * ns.getD (2 * k) 0 + ns.getD (2 * k + 1) 0 := by
  induction k generalizing ns with
  | zero =>
    match ns with
    | a :: b :: rest =>
      rw [List.flatMap_cons, List.flatMap_cons, packBits_nibbles]
      exact toNat_byteOfNibbles a (hlt a (by simp)) b (hlt b (by simp))
  | succ k ih =>
    match ns with
    | a :: b :: rest =>
      rw [List.flatMap_cons, List.flatMap_cons, packBits_nibbles]
      exact ih (by simp at hk; omega) fun n hn => hlt n (by simp [hn])

/-! ### Header, payload and tail -/

/-- The nibbles of the header, the payload and the tail (R173, R175, R176). -/
def headerNibbles (v : Nat) (payload : List Byte) : List Nat :=
  [4] ++
    (if v ≤ 9 then [payload.length / 16 % 16, payload.length % 16]
     else [payload.length / 4096 % 16, payload.length / 256 % 16, payload.length / 16 % 16, payload.length % 16]) ++
    payload.flatMap (fun p => [p.toNat / 16, p.toNat % 16]) ++ [0]

theorem headerBits_eq_flatMap_nibbles (v : Nat) (payload : List Byte) :
    headerBits stdParams v payload = (headerNibbles v payload).flatMap (bitsOf 4) := by
  rw [headerBits, headerNibbles, bytesToBits_eq_flatMap_nibbles, List.flatMap_append, List.flatMap_append,
    List.flatMap_append, lengthBits]
  split
  · rw [bitsOf_eight]; rfl
  · rw [bitsOf_sixteen]; rfl

theorem headerNibbles_lt {v : Nat} {payload : List Byte} : ∀ n ∈ headerNibbles v payload, n < 16 := by
  intro n hn
  simp only [headerNibbles, List.mem_append, List.mem_flatMap, List.mem_cons, List.not_mem_nil, or_false] at hn
  obtain ((rfl | hlength) | ⟨p, -, hp⟩) | rfl := hn
  · decide
  · split at hlength <;> simp at hlength <;> omega
  · omega
  · decide

theorem length_headerNibbles (v : Nat) (payload : List Byte) :
    (headerNibbles v payload).length = 2 * (payload.length + headerLength v) := by
  unfold headerNibbles headerLength
  split <;> simp <;> omega

theorem length_packBits_headerBits (v : Nat) (payload : List Byte) :
    (packBits (headerBits stdParams v payload)).length = payload.length + headerLength v := by
  rw [headerBits_eq_flatMap_nibbles, length_packBits_nibbles (length_headerNibbles v payload)]

/-- Settles O38: the bit string is the nibbles of header, payload and tail in order, and packing takes them in pairs. -/
theorem headerAndPayloadCodewords : Obligations.HeaderAndPayloadCodewords := by
  unfold Obligations.HeaderAndPayloadCodewords
  rintro v e payload size rfl - k hk nibbles rfl
  have hpacked : k < (packBits (headerBits stdParams v payload)).length := by rwa [length_packBits_headerBits]
  rw [dataWords, List.getD_append _ _ _ _ hpacked, headerBits_eq_flatMap_nibbles]
  refine toNat_getD_packBits_nibbles ?_ headerNibbles_lt
  rw [length_headerNibbles, headerLength]
  omega

/-! ### Padding -/

theorem length_padBytes (n : Nat) : (padBytes n).length = n := by
  rw [padBytes, List.length_map, List.length_range]

theorem getD_padBytes {n k : Nat} (hk : k < n) : (padBytes n).getD k 0 = if k % 2 = 0 then 0xEC else 0x11 := by
  rw [List.getD_eq_getElem _ 0 (by rwa [length_padBytes])]
  simp only [padBytes, List.getElem_map, List.getElem_range]

theorem length_dataWords {v : Nat} {e : BlockEntry} {payload : List Byte}
    (h : payload.length + headerLength v ≤ e.capacity) : (dataWords stdParams v e payload).length = e.capacity := by
  rw [dataWords, List.length_append, length_packBits_headerBits, length_padBytes]; omega

/-- Settles O39: the pad bytes follow the packed bit string and fill the data up to CAP bytes. -/
theorem paddingCodewords : Obligations.PaddingCodewords := by
  unfold Obligations.PaddingCodewords
  rintro v e payload n rfl hfits
  refine ⟨length_dataWords hfits, fun k hlo hhi => ?_⟩
  have hpacked : (packBits (headerBits stdParams v payload)).length ≤ k := by rwa [length_packBits_headerBits]
  rw [dataWords, List.getD_append_right _ _ _ _ hpacked, length_packBits_headerBits]
  exact getD_padBytes (Nat.sub_lt_sub_right hlo hhi)

end Sys2Proof.Machine
end

section
/-! SUPPORT. The interleaved sequence (42_stream.md R178–R180, R183): rows of equal length one after another, the blocks
they are read from, and the position of each byte. -/

namespace Sys2Proof.Machine

/-! ### Rows of equal length -/

theorem rowPosition_lt {N n i b : Nat} (hi : i < n) (hb : b < N) : i * N + b < n * N :=
  calc i * N + b < (i + 1) * N := by rw [Nat.succ_mul]; omega
    _ ≤ n * N := Nat.mul_le_mul_right N hi

theorem length_flatMap_range {f : Nat → List Byte} {N : Nat} (hf : ∀ i, (f i).length = N) (n : Nat) :
    ((List.range n).flatMap f).length = n * N := by
  simp only [List.length_flatMap, hf, List.map_const', List.sum_replicate, List.length_range, smul_eq_mul]

theorem getD_flatMap_range {f : Nat → List Byte} {N n i b : Nat} (hf : ∀ i, (f i).length = N) (hi : i < n) (hb : b < N) :
    ((List.range n).flatMap f).getD (i * N + b) 0 = (f i).getD b 0 := by
  induction n with
  | zero => cases hi
  | succ n ih =>
    rw [List.range_succ, List.flatMap_append, List.flatMap_singleton]
    rcases Nat.lt_succ_iff_lt_or_eq.mp hi with hlt | rfl
    · rw [List.getD_append _ _ _ _ (by rw [length_flatMap_range hf]; exact rowPosition_lt hlt hb), ih hlt]
    · rw [List.getD_append_right _ _ _ _ (by rw [length_flatMap_range hf]; omega), length_flatMap_range hf,
        Nat.add_sub_cancel_left]

/-- The bytes at place `i` of every block, in block order (R180). -/
def byteRow (blocks : List (List Byte)) (i : Nat) : List Byte := blocks.map fun c => c.getD i 0

theorem length_byteRow (blocks : List (List Byte)) (i : Nat) : (byteRow blocks i).length = blocks.length :=
  List.length_map _

theorem getD_byteRow (blocks : List (List Byte)) (i b : Nat) :
    (byteRow blocks i).getD b 0 = (blocks.getD b []).getD i 0 :=
  List.getD_map blocks [] fun c => c.getD i 0

theorem interleave_eq_rows (e : BlockEntry) (blocks eccs : List (List Byte)) :
    interleave e blocks eccs =
      (List.range e.dataWidth).flatMap (byteRow blocks) ++ byteRow (blocks.drop e.short) e.dataWidth ++
        (List.range e.eccWidth).flatMap (byteRow eccs) := rfl

/-! ### The blocks -/

theorem getD_dataBlocks {e : BlockEntry} (data : List Byte) {b : Nat} (hb : b < e.blocks) :
    (dataBlocks e data).getD b [] = (data.drop (blockOffset e b)).take (blockLength e b) := by
  rw [List.getD_eq_getElem _ _ (by rwa [length_dataBlocks])]
  simp only [dataBlocks, List.getElem_map, List.getElem_range]

theorem length_eccBlocks (e : BlockEntry) (blocks : List (List Byte)) : (eccBlocks e blocks).length = blocks.length :=
  List.length_map _

theorem getD_eccBlocks {e : BlockEntry} {blocks : List (List Byte)} {b : Nat} (hb : b < blocks.length) :
    (eccBlocks e blocks).getD b [] = rsEncode (genImage e.eccWidth) e.eccWidth (blocks.getD b []) := by
  rw [List.getD_eq_getElem _ _ (by rwa [length_eccBlocks]), List.getD_eq_getElem _ _ hb]
  exact List.getElem_map _

theorem getD_take_drop {data : List Byte} {off n i : Nat} (hi : i < n) :
    ((data.drop off).take n).getD i 0 = data.getD (off + i) 0 := by
  rw [List.getD_eq_getElem?_getD, List.getD_eq_getElem?_getD, List.getElem?_take_of_lt hi, List.getElem?_drop]

/-! ### Positions -/

section Interleave
variable {e : BlockEntry} {blocks eccs : List (List Byte)}

theorem length_dataRows (hb : blocks.length = e.blocks) :
    ((List.range e.dataWidth).flatMap (byteRow blocks)).length = e.dataWidth * e.blocks :=
  length_flatMap_range (fun i => (length_byteRow blocks i).trans hb) _

theorem length_extraRow (hb : blocks.length = e.blocks) :
    (byteRow (blocks.drop e.short) e.dataWidth).length = e.long := by
  rw [length_byteRow, List.length_drop, hb, BlockEntry.blocks, Nat.add_sub_cancel_left]

theorem length_dataRows_append_extraRow (hb : blocks.length = e.blocks) :
    ((List.range e.dataWidth).flatMap (byteRow blocks) ++ byteRow (blocks.drop e.short) e.dataWidth).length =
      e.capacity := by
  rw [List.length_append, length_dataRows hb, length_extraRow hb, BlockEntry.capacity]

theorem getD_interleave_data (hb : blocks.length = e.blocks) {i b : Nat} (hi : i < e.dataWidth) (hlt : b < e.blocks) :
    (interleave e blocks eccs).getD (i * e.blocks + b) 0 = (blocks.getD b []).getD i 0 := by
  rw [interleave_eq_rows, List.append_assoc,
    List.getD_append _ _ _ _ (by rw [length_dataRows hb]; exact rowPosition_lt hi hlt),
    getD_flatMap_range (fun i => (length_byteRow blocks i).trans hb) hi hlt, getD_byteRow]

theorem getD_interleave_extra (hb : blocks.length = e.blocks) {b : Nat} (hlo : e.short ≤ b) (hlt : b < e.blocks) :
    (interleave e blocks eccs).getD (e.dataWidth * e.blocks + (b - e.short)) 0 =
      (blocks.getD b []).getD e.dataWidth 0 := by
  have hextra : b - e.short < e.long := by unfold BlockEntry.blocks at hlt; omega
  have hblock : (blocks.drop e.short).getD (b - e.short) [] = blocks.getD b [] := by
    rw [List.getD_eq_getElem?_getD, List.getElem?_drop, Nat.add_sub_cancel' hlo, List.getD_eq_getElem?_getD]
  rw [interleave_eq_rows, List.append_assoc, List.getD_append_right _ _ _ _ (by rw [length_dataRows hb]; omega),
    length_dataRows hb, Nat.add_sub_cancel_left, List.getD_append _ _ _ _ (by rwa [length_extraRow hb]), getD_byteRow,
    hblock]

theorem getD_interleave_ecc (hb : blocks.length = e.blocks) (he : eccs.length = e.blocks) {k b : Nat}
    (hk : k < e.eccWidth) (hlt : b < e.blocks) :
    (interleave e blocks eccs).getD (e.capacity + k * e.blocks + b) 0 = (eccs.getD b []).getD k 0 := by
  rw [interleave_eq_rows, Nat.add_assoc,
    List.getD_append_right _ _ _ _ (by rw [length_dataRows_append_extraRow hb]; omega),
    length_dataRows_append_extraRow hb, Nat.add_sub_cancel_left,
    getD_flatMap_range (fun i => (length_byteRow eccs i).trans he) hk hlt, getD_byteRow]

end Interleave

/-! ### One block -/

theorem map_getD_range_length {n : Nat} {l : List Byte} (h : l.length = n) :
    ((List.range n).map fun i => l.getD i 0) = l := by
  subst h
  refine List.ext_getElem (by simp) fun i _ hi => ?_
  rw [List.getElem_map, List.getElem_range, List.getD_eq_getElem _ _ hi]

/-- The rows of one block are its bytes in order. -/
theorem flatMap_byteRow_singleton (c : List Byte) (n : Nat) :
    (List.range n).flatMap (byteRow [c]) = (List.range n).map fun i => c.getD i 0 :=
  List.map_eq_flatMap.symm

theorem interleave_singleton {e : BlockEntry} {data ecc : List Byte} (hone : e.short + e.long = 1)
    (hdata : data.length = e.capacity) (hecc : ecc.length = e.eccWidth) : interleave e [data] [ecc] = data ++ ecc := by
  have hcap : e.capacity = e.dataWidth + e.long := by rw [BlockEntry.capacity, BlockEntry.blocks, hone, Nat.mul_one]
  have hextra : byteRow ([data].drop e.short) e.dataWidth =
      (List.range e.long).map fun i => data.getD (e.dataWidth + i) 0 := by
    obtain ⟨hs, hl⟩ | ⟨hs, hl⟩ : e.short = 1 ∧ e.long = 0 ∨ e.short = 0 ∧ e.long = 1 := by omega
    all_goals rw [hs, hl]; rfl
  have hrows : ((List.range e.dataWidth).map fun i => data.getD i 0) ++
      ((List.range e.long).map fun i => data.getD (e.dataWidth + i) 0) = data := by
    calc _ = (List.range (e.dataWidth + e.long)).map fun i => data.getD i 0 := by
          rw [List.range_add, List.map_append, List.map_map]; rfl
      _ = data := map_getD_range_length (hdata.trans hcap)
  rw [interleave_eq_rows, flatMap_byteRow_singleton, flatMap_byteRow_singleton, hextra, hrows, map_getD_range_length hecc]

theorem dataBlocks_of_one_block {e : BlockEntry} {data : List Byte} (hone : e.short + e.long = 1)
    (hdata : data.length = e.capacity) : dataBlocks e data = [data] := by
  have hlen : blockLength e 0 = data.length := by
    rw [hdata, BlockEntry.capacity, BlockEntry.blocks, hone, blockLength]
    split <;> omega
  rw [dataBlocks, BlockEntry.blocks, hone]
  simp [blockOffset, hlen]

/-- Settles O40: the sequence is the rows of data bytes, the row of extra bytes and the rows of ECC bytes, each row one
byte of every block in order. -/
theorem interleavePositions : Obligations.InterleavePositions := by
  unfold Obligations.InterleavePositions
  rintro v e payload data out hfits rfl rfl
  have hblocks := length_dataBlocks e (dataWords stdParams v e payload)
  have heccs := (length_eccBlocks e _).trans hblocks
  refine ⟨length_interleave e hblocks heccs, fun b hb i hi => ?_, fun b hlo hb => ?_, fun b hb k hk => ?_, fun hone => ?_⟩
  · have hi' : i < blockLength e b := by unfold blockLength; split <;> omega
    exact (getD_interleave_data hblocks hi hb).trans (by rw [getD_dataBlocks _ hb, getD_take_drop hi']; rfl)
  · have hlong : e.dataWidth < blockLength e b := by rw [blockLength, if_neg (by omega)]; omega
    exact (getD_interleave_extra hblocks hlo hb).trans (by rw [getD_dataBlocks _ hb, getD_take_drop hlong]; rfl)
  · exact (getD_interleave_ecc hblocks heccs hk hb).trans
      (by rw [getD_eccBlocks (by rwa [hblocks]), getD_dataBlocks _ hb]; rfl)
  · have hdata : (dataWords stdParams v e payload).length = e.capacity := length_dataWords hfits
    rw [codewords, dataBlocks_of_one_block hone hdata]
    exact interleave_singleton hone hdata (length_rsEncode _ (by rw [length_genImage]; omega))

end Sys2Proof.Machine
end

section
/-! SUPPORT. STREAM_BUILD (42_stream.md R181, R182): the generator and the codeword sequence it writes, and nothing else. -/

namespace Sys2Proof.Machine

theorem exec_streamBuild {s : State} (hcfg : s.cfgOk = true) (hfits : s.allocFits (s.entry stdParams).total = true) :
    exec .streamBuild s = .next (streamBuildEffect stdParams s).complete := by
  rw [show exec .streamBuild s = execStreamBuild s from rfl, execStreamBuild, streamBuild,
    streamBuildCheck_eq_none.mpr ⟨hcfg, hfits⟩, guarded_none, outcome_done]

/-- After STREAM_BUILD, GEN holds the generator of the table's ECC width (R179, R181). -/
theorem ram_gen_streamBuildEffect {s : State} (hcfg : s.cfgOk = true) {k : Nat} (hk : k ≤ (s.entry stdParams).eccWidth) :
    (streamBuildEffect stdParams s).ram .gen k = logRom ((genPoly (s.entry stdParams).eccWidth).getD k 0).toNat := by
  obtain ⟨-, -, hgen⟩ := State.genHolds_streamBuildEffect hcfg rfl
  rw [State.encDegree_streamBuildEffect hcfg] at hgen
  exact (hgen k hk).trans (getD_genImage hk)

theorem ram_stream_streamBuildEffect (P : Params) (s : State) {k : Nat} (hk : k < (s.entry P).total) :
    (streamBuildEffect P s).ram .stream k = (s.streamOut P).getD k 0 := by
  rw [State.ram, State.byteAt, streamBuildEffect_mem, Memory.byte_storeBytes_ram,
    if_pos ⟨Nat.zero_le k, by rwa [length_streamOut, Nat.zero_add]⟩, Nat.sub_zero]

theorem byteAt_streamBuildEffect_of_ne (P : Params) (s : State) {a : Nat}
    (hgen : ∀ k ≤ (s.entry P).eccWidth, a ≠ Ram.gen.addr k) (hstream : ∀ k < (s.entry P).total, a ≠ Ram.stream.addr k) :
    (streamBuildEffect P s).byteAt a = s.byteAt a := by
  have hgen' : ∀ k < (genImage (s.entry P).eccWidth).length, a ≠ Ram.gen.addr (0 + k) := by
    intro k hk
    rw [length_genImage] at hk
    rw [Nat.zero_add]
    exact hgen k (Nat.le_of_lt_succ hk)
  have hstream' : ∀ k < (s.streamOut P).length, a ≠ Ram.stream.addr (0 + k) := by
    intro k hk
    rw [length_streamOut] at hk
    rw [Nat.zero_add]
    exact hstream k hk
  exact (Memory.byte_storeBytes_of_ne_addr _ _ _ _ _ hstream').trans
    (Memory.byte_storeBytes_of_ne_addr _ _ _ _ _ hgen')

/-- The payload STREAM_BUILD encodes is PAYLOAD[0..size−1] (R174). -/
theorem State.payloadBytes_eq (P : Params) (s : State) :
    s.payloadBytes P = (List.range (s.encodedLength P)).map fun j => s.ram .payload j := by
  simp only [State.payloadBytes, State.ramBytes, Nat.zero_add]

/-- Settles O37: with its checks passed STREAM_BUILD stores the generator's image at GEN[0] and the codewords at STREAM[0],
two RAMs that do not meet. -/
theorem streamBuildResult : Obligations.StreamBuildResult := by
  unfold Obligations.StreamBuildResult
  rintro s v limit e rfl hlo hhi rfl rfl hfits
  have hcfg : s.cfgOk = true := State.cfgOk_iff.mpr ⟨hlo, hhi⟩
  refine ⟨_, exec_streamBuild hcfg (State.allocFits_iff.mpr hfits), rfl, fun k hk => ?_, fun k hk => ?_,
    fun a hgen hstream => ?_⟩
  · exact ram_gen_streamBuildEffect hcfg hk
  · refine (ram_stream_streamBuildEffect stdParams s hk).trans ?_
    rw [State.streamOut, State.payloadBytes_eq]; rfl
  · exact byteAt_streamBuildEffect_of_ne stdParams s hgen hstream

end Sys2Proof.Machine
end

section
/-! SUPPORT. The two BCH code tables against their generators (43_frame.md R209; 45_mask_format.md R270). -/

namespace Sys2Proof.Machine

/-- Settles O44: each of the 34 version words and 32 format words is divided out by its generator. -/
theorem versionAndFormatWords : Obligations.VersionAndFormatWords := by
  unfold Obligations.VersionAndFormatWords
  have hversion : ∀ v < 41, 7 ≤ v → (stdVersionWord v).toNat =
      (v <<< 12) ||| ([17, 16, 15, 14, 13, 12].foldl
        (fun r k => if r.testBit k then r ^^^ (0x1F25 <<< (k - 12)) else r) (v <<< 12)) := by decide
  refine ⟨fun v hlo hhi => hversion v (Nat.lt_succ_of_le hhi) hlo, ?_⟩
  rintro l hl m hm _ rfl
  revert l m
  decide

end Sys2Proof.Machine
end

section
/-! SUPPORT. What writes to cells do to a matrix, padding bits and all (20_memory.md R72), and MASK_APPLY
(45_mask_format.md R250, R252; 43_frame.md R213). -/

namespace Sys2Proof.Machine

/-! ### Cells and padding bits -/

/-- A cell or padding bit of row y is stored in a byte of the matrix. -/
theorem cellByte_lt_of_row {S W x y : Nat} (hx : x < 8 * S) (hy : y < W) : cellByte S x y < W * S := by
  have hrows : (y + 1) * S ≤ W * S := Nat.mul_le_mul_right S hy
  have hbyte : x / 8 < S := div_eight_lt_of_lt hx
  unfold cellByte
  rw [Nat.succ_mul] at hrows
  omega

theorem Memory.cell_congr {f : Nat} {r : Ram} {S : Nat} {m m' : Memory} {x y : Nat}
    (h : Memory.byte f m (r.addr (cellByte S x y)) = Memory.byte f m' (r.addr (cellByte S x y))) :
    Memory.cell f r S m x y = Memory.cell f r S m' x y := by
  unfold Memory.cell
  rw [h]

/-- Writes of 1 alone set the cells they name and leave a cell that is 0 otherwise (R202). -/
theorem Memory.cell_storeCells_ones {f : Nat} {r : Ram} {S : Nat} {m : Memory} {ws : List CellWrite} {x y : Nat}
    (hx : x / 8 < S) (hw : ∀ w ∈ ws, w.x / 8 < S) (hones : ∀ w ∈ ws, w.bit = true)
    (hzero : Memory.cell f r S m x y = false) :
    Memory.cell f r S (Memory.storeCells f r S m ws) x y = true ↔ ∃ w ∈ ws, w.x = x ∧ w.y = y := by
  by_cases hput : ∃ w ∈ ws, w.x = x ∧ w.y = y
  · exact iff_of_true (Memory.cell_storeCells_of_mem _ _ _ _ _ hx hw hput fun w hm _ _ => hones w hm) hput
  · have hkept := Memory.cell_storeCells_of_ne f r S m ws hx hw fun w hm e => hput ⟨w, hm, e⟩
    exact iff_of_false (by rw [hkept, hzero]; decide) hput

/-! ### MASK_APPLY -/

theorem exec_maskApply {s : State} (m : Nat) (hcfg : s.cfgOk = true) (hframe : s.frameBuilt = true) :
    exec (.maskApply m) s = .next (maskApplyEffect stdParams m s).complete := by
  rw [show exec (.maskApply m) s = execMaskApply m s from rfl, execMaskApply, maskApply,
    frameCheck_eq_none.mpr ⟨hcfg, hframe⟩, guarded_none, outcome_done]

/-- Every cell and padding bit of BITMAP after MASK_APPLY (R250). -/
theorem cell_maskApplyEffect (P : Params) (s : State) (m : Nat) {x y : Nat} (hx : x < 8 * stride s.ver)
    (hy : y < width s.ver) :
    (maskApplyEffect P m s).cell .bitmap x y =
      if x < width s.ver ∧ s.cell .reserved x y = false ∧ P.maskPred m x y = true then !s.cell .bitmap x y
      else s.cell .bitmap x y := by
  have hx8 := div_eight_lt_of_lt hx
  have hw : ∀ w ∈ s.maskWrites P m, w.x / 8 < stride s.ver := fun w hm =>
    div_eight_lt_stride (mem_maskWrites.mp hm).1
  refine (congrArg (fun mem => Memory.cell s.ramDraw .bitmap (stride s.ver) mem x y) (maskApplyEffect_mem P s m)).trans ?_
  split
  next hmask =>
    obtain ⟨hxW, hfree, hpred⟩ := hmask
    refine Memory.cell_storeCells_of_mem _ _ _ _ _ hx8 hw
      ⟨⟨x, y, !s.cell .bitmap x y⟩, mem_maskWrites.mpr ⟨hxW, hy, hfree, hpred, rfl⟩, rfl, rfl⟩ ?_
    rintro w hm rfl rfl
    obtain ⟨-, -, -, -, hbit⟩ := mem_maskWrites.mp hm
    exact hbit
  next hkeep =>
    refine Memory.cell_storeCells_of_ne _ _ _ _ _ hx8 hw ?_
    rintro w hm ⟨rfl, rfl⟩
    obtain ⟨hxW, -, hfree, hpred, -⟩ := mem_maskWrites.mp hm
    exact hkeep ⟨hxW, hfree, hpred⟩

theorem byteAt_maskApplyEffect_of_ne (P : Params) (s : State) (m : Nat) {a : Nat}
    (ha : ∀ k < matrixBytes s.ver, a ≠ Ram.bitmap.addr k) : (maskApplyEffect P m s).byteAt a = s.byteAt a := by
  refine (congrArg (fun mem => Memory.byte s.ramDraw mem a) (maskApplyEffect_mem P s m)).trans ?_
  refine Memory.byte_storeCells_of_ne _ _ _ _ _ _ fun w hm => ?_
  obtain ⟨hx, hy, -⟩ := mem_maskWrites.mp hm
  exact ha _ (cellByte_lt hx hy)

/-- Settles O48: the writes of MASK_APPLY name exactly the free cells whose predicate holds, each with its bit inverted. -/
theorem maskApplyResult : Obligations.MaskApplyResult := by
  unfold Obligations.MaskApplyResult
  rintro s _ _ m rfl hlo hhi rfl hframe -
  exact ⟨_, exec_maskApply m (State.cfgOk_iff.mpr ⟨hlo, hhi⟩) hframe, rfl,
    fun x hx y hy => cell_maskApplyEffect stdParams s m hx hy,
    fun a ha => byteAt_maskApplyEffect_of_ne stdParams s m ha⟩

end Sys2Proof.Machine
end

section
/-! SUPPORT. FRAME_BUILD: both matrices zeroed, then every pattern cell stamped, and nothing else written (43_frame.md R200,
R201, R202, R213). -/

namespace Sys2Proof.Machine

theorem exec_frameBuild {s : State} (hcfg : s.cfgOk = true) (hnew : s.frameBuilt = false)
    (hfits : s.allocFits s.frameCharge = true) : exec .frameBuild s = .next (frameBuildEffect stdParams s).complete := by
  rw [show exec .frameBuild s = execFrameBuild s from rfl, execFrameBuild, frameBuild,
    frameBuildCheck_eq_none.mpr ⟨hcfg, hnew, hfits⟩, guarded_none, outcome_done]

/-- The registers FRAME_BUILD leaves (R200). -/
theorem frameBuildEffect_complete_eq (P : Params) (s : State) :
    (frameBuildEffect P s).complete = { s with
      mem := (frameBuildEffect P s).complete.mem
      arenaUsed := s.usedAfter s.frameCharge
      frameBuilt := true
      selected := false
      symbolValid := false
      seq := .idle
      done := true } := by
  simp only [frameBuildEffect, State.complete, State.dropSelection]

theorem cell_frameBuildEffect (P : Params) (s : State) (r : Ram) (x y : Nat) :
    (frameBuildEffect P s).complete.cell r x y = Memory.cell s.ramDraw r (stride s.ver) (s.framed P) x y := by
  rw [State.cell, State.complete_mem, frameBuildEffect_mem]; rfl

theorem byteAt_frameBuildEffect (P : Params) (s : State) (a : Nat) :
    (frameBuildEffect P s).complete.byteAt a = Memory.byte s.ramDraw (s.framed P) a := by
  rw [State.byteAt, State.complete_mem, frameBuildEffect_mem]; rfl

/-! ### The zeroed matrices -/

/-- The memory after the zero-initialisation (R201), before any `put`. -/
def State.blankMatrices (s : State) : Memory :=
  Memory.storeBytes (Memory.storeBytes s.mem (Ram.bitmap.addr 0) (List.replicate (matrixBytes s.ver) 0))
    (Ram.reserved.addr 0) (List.replicate (matrixBytes s.ver) 0)

theorem State.framed_eq (P : Params) (s : State) :
    s.framed P = Memory.storeCells s.ramDraw .reserved (stride s.ver)
      (Memory.storeCells s.ramDraw .bitmap (stride s.ver) s.blankMatrices (bitmapPuts (framePuts P s.ver)))
      (reservedPuts (framePuts P s.ver)) := rfl

theorem Memory.byte_storeBytes_zeros {f : Nat} {m : Memory} {r : Ram} {n i : Nat} (hi : i < n) :
    Memory.byte f (Memory.storeBytes m (r.addr 0) (List.replicate n 0)) (r.addr i) = 0 := by
  rw [Memory.byte_storeBytes_ram, if_pos ⟨Nat.zero_le i, by simpa using hi⟩]
  exact List.getD_replicate _ hi

theorem State.byte_blankMatrices {s : State} (hcfg : s.cfgOk = true) {r : Ram} (hr : r = .bitmap ∨ r = .reserved)
    {f i : Nat} (hi : i < matrixBytes s.ver) : Memory.byte f s.blankMatrices (r.addr i) = 0 := by
  have hsize := hi.trans (State.matrixBytes_lt hcfg)
  rcases hr with rfl | rfl
  · exact (Memory.byte_storeBytes_other _ _ _ _ (State.length_zeros_le hcfg rfl) hsize (by decide)).trans
      (Memory.byte_storeBytes_zeros hi)
  · exact Memory.byte_storeBytes_zeros hi

theorem State.cell_blankMatrices {s : State} (hcfg : s.cfgOk = true) {r : Ram} (hr : r = .bitmap ∨ r = .reserved)
    {f x y : Nat} (hx : x < 8 * stride s.ver) (hy : y < width s.ver) :
    Memory.cell f r (stride s.ver) s.blankMatrices x y = false := by
  rw [Memory.cell, State.byte_blankMatrices hcfg hr (cellByte_lt_of_row hx hy)]
  exact BitVec.getLsbD_zero

theorem State.byte_blankMatrices_of_ne {s : State} {f a : Nat}
    (ha : ∀ k < matrixBytes s.ver, a ≠ Ram.bitmap.addr k ∧ a ≠ Ram.reserved.addr k) :
    Memory.byte f s.blankMatrices a = Memory.byte f s.mem a := by
  have hne {k : Nat} (hk : k < (List.replicate (matrixBytes s.ver) (0 : Byte)).length) :
      a ≠ Ram.bitmap.addr (0 + k) ∧ a ≠ Ram.reserved.addr (0 + k) := by
    rw [Nat.zero_add]
    exact ha k (by rwa [List.length_replicate] at hk)
  exact (Memory.byte_storeBytes_of_ne_addr _ _ _ _ _ fun _ hk => (hne hk).2).trans
    (Memory.byte_storeBytes_of_ne_addr _ _ _ _ _ fun _ hk => (hne hk).1)

/-! ### The stamped cells -/

/-- Some `put` of the version's frame names the cell. -/
def IsPut (v x y : Nat) : Prop := ∃ p ∈ framePuts stdParams v, p.x = x ∧ p.y = y

/-- Some `put` of the version's frame names the cell with pattern bit 1. -/
def IsDarkPut (v x y : Nat) : Prop := ∃ p ∈ framePuts stdParams v, p.x = x ∧ p.y = y ∧ p.bit = true

theorem exists_mem_bitmapPuts {ps : List CellWrite} {x y : Nat} :
    (∃ w ∈ bitmapPuts ps, w.x = x ∧ w.y = y) ↔ ∃ p ∈ ps, p.x = x ∧ p.y = y ∧ p.bit = true := by
  simp only [bitmapPuts, List.mem_filter]
  exact exists_congr fun w => by tauto

theorem exists_mem_reservedPuts {ps : List CellWrite} {x y : Nat} :
    (∃ w ∈ reservedPuts ps, w.x = x ∧ w.y = y) ↔ ∃ p ∈ ps, p.x = x ∧ p.y = y := by
  simp [reservedPuts]

section
variable {s : State} (hcfg : s.cfgOk = true)
include hcfg

theorem cell_reserved_frameBuildEffect {x y : Nat} (hx : x < 8 * stride s.ver) (hy : y < width s.ver) :
    (frameBuildEffect stdParams s).complete.cell .reserved x y = true ↔ IsPut s.ver x y := by
  have hps := State.cellsInside_framePuts hcfg
  have hsize := (cellByte_lt_of_row hx hy).trans (State.matrixBytes_lt hcfg)
  have hzero : Memory.cell s.ramDraw .reserved (stride s.ver) (Memory.storeCells s.ramDraw .bitmap (stride s.ver)
      s.blankMatrices (bitmapPuts (framePuts stdParams s.ver))) x y = false :=
    (Memory.cell_congr (hps.bitmapPuts.byte_storeCells hcfg rfl (by decide) hsize)).trans
      (State.cell_blankMatrices hcfg (.inr rfl) hx hy)
  rw [cell_frameBuildEffect, State.framed_eq, IsPut, ← exists_mem_reservedPuts]
  exact Memory.cell_storeCells_ones (div_eight_lt_of_lt hx) (fun w hw => div_eight_lt_stride (hps.reservedPuts w hw).1)
    (fun w hw => by obtain ⟨p, -, rfl⟩ := List.mem_map.mp hw; rfl) hzero

theorem cell_bitmap_frameBuildEffect {x y : Nat} (hx : x < 8 * stride s.ver) (hy : y < width s.ver) :
    (frameBuildEffect stdParams s).complete.cell .bitmap x y = true ↔ IsDarkPut s.ver x y := by
  have hps := State.cellsInside_framePuts hcfg
  have hsize := (cellByte_lt_of_row hx hy).trans (State.matrixBytes_lt hcfg)
  rw [cell_frameBuildEffect, State.framed_eq,
    Memory.cell_congr (hps.reservedPuts.byte_storeCells hcfg rfl (by decide) hsize), IsDarkPut, ← exists_mem_bitmapPuts]
  exact Memory.cell_storeCells_ones (div_eight_lt_of_lt hx) (fun w hw => div_eight_lt_stride (hps.bitmapPuts w hw).1)
    (fun w hw => (List.mem_filter.mp hw).2) (State.cell_blankMatrices hcfg (.inl rfl) hx hy)

theorem byteAt_frameBuildEffect_of_ne {a : Nat}
    (ha : ∀ k < matrixBytes s.ver, a ≠ Ram.bitmap.addr k ∧ a ≠ Ram.reserved.addr k) :
    (frameBuildEffect stdParams s).complete.byteAt a = s.byteAt a := by
  have hps := State.cellsInside_framePuts hcfg
  have hbyte {w : CellWrite} (hw : w.x < width s.ver ∧ w.y < width s.ver) := ha _ (cellByte_lt hw.1 hw.2)
  rw [byteAt_frameBuildEffect, State.framed_eq,
    Memory.byte_storeCells_of_ne _ _ _ _ _ _ fun w hw => (hbyte (hps.reservedPuts w hw)).2,
    Memory.byte_storeCells_of_ne _ _ _ _ _ _ fun w hw => (hbyte (hps.bitmapPuts w hw)).1]
  exact State.byte_blankMatrices_of_ne ha

/-- No `put` names a padding bit (R213). -/
theorem not_isPut_padding {x y : Nat} (hx : width s.ver ≤ x) : ¬IsPut s.ver x y := by
  rintro ⟨p, hp, rfl, -⟩
  exact Nat.not_lt.mpr hx (State.cellsInside_framePuts hcfg p hp).1

end

theorem IsDarkPut.isPut {v x y : Nat} (h : IsDarkPut v x y) : IsPut v x y := by
  obtain ⟨p, hp, hx, hy, -⟩ := h
  exact ⟨p, hp, hx, hy⟩

/-- Settles O41: with its checks passed FRAME_BUILD zeroes both matrices and writes ones only, RESERVED at every `put`, BITMAP
at those with pattern bit 1. -/
theorem frameBuildResult : Obligations.FrameBuildResult := by
  unfold Obligations.FrameBuildResult
  rintro s _ _ _ rfl hlo hhi rfl rfl hnew hfits
  have hcfg : s.cfgOk = true := State.cfgOk_iff.mpr ⟨hlo, hhi⟩
  refine ⟨_, exec_frameBuild hcfg hnew (State.allocFits_iff.mpr hfits), frameBuildEffect_complete_eq _ s,
    fun x hx y hy => ?cells, fun x hx hpad y hy => ?padding, fun a ha => byteAt_frameBuildEffect_of_ne hcfg ha⟩
  case cells => exact ⟨cell_reserved_frameBuildEffect hcfg hx hy, cell_bitmap_frameBuildEffect hcfg hx hy⟩
  case padding =>
    have hno := not_isPut_padding hcfg (y := y) hpad
    exact ⟨Bool.eq_false_iff.mpr fun h => hno ((cell_reserved_frameBuildEffect hcfg hx hy).mp h),
      Bool.eq_false_iff.mpr fun h => hno ((cell_bitmap_frameBuildEffect hcfg hx hy).mp h).isPut⟩

end Sys2Proof.Machine
end

section
/-! SUPPORT. What each pattern of the frame puts where (43_frame.md R200, R203–R211). -/

namespace Sys2Proof.Machine

/-- The puts of a square, column offset first. -/
theorem mem_square {n : Nat} {f : Nat → Nat → CellWrite} {p : CellWrite} :
    (p ∈ (List.range n).flatMap fun dy => (List.range n).map fun dx => f dx dy) ↔
      ∃ dx < n, ∃ dy < n, p = f dx dy := by
  simp only [List.mem_flatMap, List.mem_map, List.mem_range]
  exact ⟨fun ⟨dy, hdy, dx, hdx, h⟩ => ⟨dx, hdx, dy, hdy, h.symm⟩, fun ⟨dx, hdx, dy, hdy, h⟩ => ⟨dy, hdy, dx, hdx, h.symm⟩⟩

theorem mem_finders {W : Nat} {p : CellWrite} :
    p ∈ finders W ↔ ∃ o ∈ [(0, 0), (W - 7, 0), (0, W - 7)], ∃ dx < 7, ∃ dy < 7,
      p = ⟨o.1 + dx, o.2 + dy, max (absDiff dx 3) (absDiff dy 3) != 2⟩ := by
  simp only [finders, finder, List.mem_append, mem_square, List.mem_cons, List.not_mem_nil, or_false, or_and_right,
    exists_or, exists_eq_left, or_assoc]

theorem mem_separators {W : Nat} {p : CellWrite} :
    p ∈ separators W ↔ ∃ k < 8, ∃ c ∈ [(7, k), (k, 7), (W - 8, k), (W - 1 - k, 7), (7, W - 1 - k), (k, W - 8)],
      p = ⟨c.1, c.2, false⟩ := by
  simp only [separators, List.mem_flatMap, List.mem_range, List.mem_cons, List.not_mem_nil, or_false, or_and_right,
    exists_or, exists_eq_left]

theorem mem_alignments {P : Params} {v : Nat} {p : CellWrite} :
    p ∈ alignments P v ↔ ∃ c ∈ alignCentres P v, ∃ dx < 5, ∃ dy < 5,
      p = ⟨c.1 + dx - 2, c.2 + dy - 2, max (absDiff dx 2) (absDiff dy 2) != 1⟩ := by
  simp only [alignments, align, List.mem_flatMap (b := p) (l := alignCentres P v), mem_square]

theorem mem_timing {W : Nat} {p : CellWrite} :
    p ∈ timing W ↔ ∃ k, 8 ≤ k ∧ k + 9 ≤ W ∧ ∃ c ∈ [(k, 6), (6, k)], p = ⟨c.1, c.2, k % 2 == 0⟩ := by
  simp only [timing, List.mem_flatMap, List.mem_range, List.mem_cons, List.not_mem_nil, or_false, or_and_right,
    exists_or, exists_eq_left]
  constructor
  · rintro ⟨j, hj, h⟩
    exact ⟨j + 8, by omega, by omega, h⟩
  · rintro ⟨k, hlo, hhi, h⟩
    exact ⟨k - 8, by omega, by rwa [Nat.sub_add_cancel hlo]⟩

theorem mem_versionInfo {P : Params} {v : Nat} {p : CellWrite} :
    p ∈ versionInfo P v ↔ 7 ≤ v ∧ ∃ k < 18, ∃ c ∈ [(k / 3, width v - 11 + k % 3), (width v - 11 + k % 3, k / 3)],
      p = ⟨c.1, c.2, (P.versionWord v).getLsbD k⟩ := by
  unfold versionInfo
  split
  next h =>
    simp only [h, true_and, List.mem_flatMap, List.mem_range, List.mem_cons, List.not_mem_nil, or_false, or_and_right,
      exists_or, exists_eq_left]
  next h => simp [h]

theorem mem_formatStrips {W : Nat} {p : CellWrite} :
    p ∈ formatStrips W ↔ (∃ k < 9, ∃ c ∈ [(k, 8), (8, k)], p = ⟨c.1, c.2, false⟩) ∨
      (∃ k < 8, p = ⟨W - 1 - k, 8, false⟩) ∨ ∃ k < 7, p = ⟨8, W - 1 - k, false⟩ := by
  simp only [formatStrips, List.mem_append, List.mem_flatMap, List.mem_map, List.mem_range, List.mem_cons, List.not_mem_nil,
    or_false, or_and_right, exists_or, exists_eq_left, or_assoc, eq_comm (b := p)]

theorem mem_framePuts {P : Params} {v : Nat} {p : CellWrite} :
    p ∈ framePuts P v ↔ p ∈ finders (width v) ∨ p ∈ separators (width v) ∨ p ∈ alignments P v ∨
      p ∈ darkModule (width v) ∨ p ∈ timing (width v) ∨ p ∈ versionInfo P v ∨ p ∈ formatStrips (width v) := by
  simp only [framePuts, List.mem_append, or_assoc]

section
variable (P : Params) (v : Nat)

theorem finders_subset : finders (width v) ⊆ framePuts P v := fun _ h => mem_framePuts.mpr (.inl h)

theorem separators_subset : separators (width v) ⊆ framePuts P v := fun _ h => mem_framePuts.mpr (.inr (.inl h))

theorem alignments_subset : alignments P v ⊆ framePuts P v := fun _ h => mem_framePuts.mpr (.inr (.inr (.inl h)))

theorem darkModule_subset : darkModule (width v) ⊆ framePuts P v := fun _ h =>
  mem_framePuts.mpr (.inr (.inr (.inr (.inl h))))

theorem timing_subset : timing (width v) ⊆ framePuts P v := fun _ h =>
  mem_framePuts.mpr (.inr (.inr (.inr (.inr (.inl h)))))

theorem versionInfo_subset : versionInfo P v ⊆ framePuts P v := fun _ h =>
  mem_framePuts.mpr (.inr (.inr (.inr (.inr (.inr (.inl h))))))

theorem formatStrips_subset : formatStrips (width v) ⊆ framePuts P v := fun _ h =>
  mem_framePuts.mpr (.inr (.inr (.inr (.inr (.inr (.inr h))))))

end

end Sys2Proof.Machine
end

section
/-! SUPPORT. No cell of a frame is drawn both dark and light, but the two timing cells under the format strips (43_frame.md
R202–R211). -/

namespace Sys2Proof.Machine

/-! ### Alignment squares -/

/-- A coordinate of an alignment centre (R206): even; 6 or well right of the left finders, a whole number of spacings from
W − 7; W − 7 or well left of the right finders. -/
abbrev WalkCoordinate (v a : Nat) : Prop :=
  a % 2 = 0 ∧ (a = 6 ∨ 16 ≤ a ∧ (width v - 7 - a) % stdAlignDelta v = 0) ∧ (a + 7 = width v ∨ a + 17 ≤ width v)

/-- The walk's centres lie on such coordinates and not in the corners with finders (R206). -/
theorem alignCentres_coordinates : ∀ v < 41, ∀ c ∈ alignCentres stdParams v,
    WalkCoordinate v c.1 ∧ WalkCoordinate v c.2 ∧
      ¬(c.1 = 6 ∧ c.2 = 6) ∧ ¬(c.1 = 6 ∧ c.2 + 7 = width v) ∧ ¬(c.1 + 7 = width v ∧ c.2 = 6) := by
  decide +kernel

theorem alignCentres_swap : ∀ v < 41, ∀ c ∈ alignCentres stdParams v, c.swap ∈ alignCentres stdParams v := by
  decide +kernel

/-- Coordinates of alignment centres are equal or so far apart that their squares do not meet (R206). -/
theorem WalkCoordinate.apart {v a b : Nat} (hv1 : 1 ≤ v) (hv : v ≤ 40) (ha : WalkCoordinate v a)
    (hb : WalkCoordinate v b) : a = b ∨ a + 5 ≤ b ∨ b + 5 ≤ a := by
  have hspacing : 11 ≤ stdAlignDelta v := stdTables_regular.1 v (Nat.lt_succ_of_le hv) hv1
  obtain ⟨-, rfl | ⟨ha, hat⟩, hla⟩ := ha <;> obtain ⟨-, rfl | ⟨hb, hbt⟩, hlb⟩ := hb
  · exact .inl rfl
  · omega
  · omega
  · have hmod : Nat.ModEq (stdAlignDelta v) (width v - 7 - a) (width v - 7 - b) := hat.trans hbt.symm
    rcases Nat.lt_trichotomy (width v - 7 - a) (width v - 7 - b) with hlt | heq | hlt
    · have := hmod.add_le_of_lt hlt
      omega
    · omega
    · have := hmod.symm.add_le_of_lt hlt
      omega

/-- Two alignment squares share a column, or a row, only in the same place of each. -/
theorem WalkCoordinate.offset_unique {v a b : Nat} (hv1 : 1 ≤ v) (hv : v ≤ 40) (ha : WalkCoordinate v a)
    (hb : WalkCoordinate v b) {i j : Nat} (hi : i < 5) (hj : j < 5) (h : a + i - 2 = b + j - 2) : i = j := by
  have hapart := ha.apart hv1 hv hb
  obtain ⟨-, hlowA, -⟩ := ha
  obtain ⟨-, hlowB, -⟩ := hb
  rcases hapart with rfl | hapart | hapart <;> omega

section
variable {v : Nat} (hv : v ≤ 40) {c : Nat × Nat} (hc : c ∈ alignCentres stdParams v) {x y dx dy : Nat} (hdx : dx < 5)
  (hdy : dy < 5) (hcell : x = c.1 + dx - 2 ∧ y = c.2 + dy - 2)
include hv hc hdx hdy hcell

/-- Alignment squares stay away from the corners with finders (R206). -/
theorem alignSquare_clear :
    4 ≤ x ∧ 4 ≤ y ∧ (x < 14 → 14 ≤ y ∧ y + 14 ≤ width v) ∧ (y < 14 → 14 ≤ x ∧ x + 14 ≤ width v) := by
  obtain ⟨⟨-, hx, hright⟩, ⟨-, hy, hbottom⟩, hcorners⟩ := alignCentres_coordinates v (Nat.lt_succ_of_le hv) c hc
  rcases hx with hx | ⟨hx, -⟩ <;> rcases hy with hy | ⟨hy, -⟩ <;> omega

/-- On the lines of the timing strips an alignment square draws the bits of the strip (R208). -/
theorem alignSquare_bit_on_timing_line (hline : x = 6 ∨ y = 6) :
    (max (absDiff dx 2) (absDiff dy 2) != 1) = ((x + y) % 2 == 0) := by
  obtain ⟨⟨hex, hleft, -⟩, ⟨hey, htop, -⟩, -⟩ := alignCentres_coordinates v (Nat.lt_succ_of_le hv) c hc
  have hmiddle : ∀ d < 5, (max (absDiff d 2) (absDiff 2 2) != 1) = (d % 2 == 0) ∧
      (max (absDiff 2 2) (absDiff d 2) != 1) = (d % 2 == 0) := by decide
  rcases hline with rfl | rfl
  · obtain rfl : dx = 2 := by omega
    rw [(hmiddle dy hdy).2, show (6 + y) % 2 = dy % 2 by omega]
  · obtain rfl : dy = 2 := by omega
    rw [(hmiddle dx hdx).1, show (x + 6) % 2 = dx % 2 by omega]

end

/-! ### Dark cells -/

/-- The cells with a pattern bit 1 (R203, R205, R207, R208, R210). -/
inductive DarkPlace (v x y : Nat) : Prop
  | finder {dx dy : Nat} (hdx : dx < 7) (hdy : dy < 7)
      (hcell : x = dx ∧ y = dy ∨ x = width v - 7 + dx ∧ y = dy ∨ x = dx ∧ y = width v - 7 + dy)
      (hbit : (max (absDiff dx 3) (absDiff dy 3) != 2) = true)
  | align {c : Nat × Nat} {dx dy : Nat} (hc : c ∈ alignCentres stdParams v) (hdx : dx < 5) (hdy : dy < 5)
      (hcell : x = c.1 + dx - 2 ∧ y = c.2 + dy - 2) (hbit : (max (absDiff dx 2) (absDiff dy 2) != 1) = true)
  | darkModule (hcell : x = 8 ∧ y = width v - 8)
  | timing {k : Nat} (hlo : 8 ≤ k) (hhi : k + 9 ≤ width v) (heven : k % 2 = 0) (hcell : x = k ∧ y = 6 ∨ x = 6 ∧ y = k)
  | version {k : Nat} (hv : 7 ≤ v) (hk : k < 18)
      (hcell : x = k / 3 ∧ y = width v - 11 + k % 3 ∨ x = width v - 11 + k % 3 ∧ y = k / 3)
      (hbit : (stdVersionWord v).getLsbD k = true)

theorem darkPlace_of_isDarkPut {v x y : Nat} (h : IsDarkPut v x y) : DarkPlace v x y := by
  obtain ⟨p, hp, rfl, rfl, hbit⟩ := h
  rcases mem_framePuts.mp hp with hp | hp | hp | hp | hp | hp | hp
  · obtain ⟨o, ho, dx, hdx, dy, hdy, rfl⟩ := mem_finders.mp hp
    refine .finder hdx hdy ?_ hbit
    fin_cases ho <;> simp
  · obtain ⟨k, hk, c, hc, rfl⟩ := mem_separators.mp hp
    exact absurd hbit Bool.false_ne_true
  · obtain ⟨c, hc, dx, hdx, dy, hdy, rfl⟩ := mem_alignments.mp hp
    exact .align hc hdx hdy ⟨rfl, rfl⟩ hbit
  · obtain rfl := List.mem_singleton.mp hp
    exact .darkModule ⟨rfl, rfl⟩
  · obtain ⟨k, hlo, hhi, c, hc, rfl⟩ := mem_timing.mp hp
    exact .timing hlo hhi (beq_iff_eq.mp hbit) (by fin_cases hc <;> simp)
  · obtain ⟨hv, k, hk, c, hc, rfl⟩ := mem_versionInfo.mp hp
    exact .version hv hk (by fin_cases hc <;> simp) hbit
  · rcases mem_formatStrips.mp hp with ⟨k, hk, c, hc, rfl⟩ | ⟨k, hk, rfl⟩ | ⟨k, hk, rfl⟩ <;>
      exact absurd hbit Bool.false_ne_true

/-! ### No pattern draws dark what another draws light -/

section
variable {v : Nat} (hv1 : 1 ≤ v) (hv : v ≤ 40) {x y : Nat} (h : DarkPlace v x y)
include hv1 hv h

theorem DarkPlace.finder_bit {o : Nat × Nat} (ho : o ∈ [(0, 0), (width v - 7, 0), (0, width v - 7)]) {dx dy : Nat}
    (hdx : dx < 7) (hdy : dy < 7) (hcell : x = o.1 + dx ∧ y = o.2 + dy) :
    (max (absDiff dx 3) (absDiff dy 3) != 2) = true := by
  have hW : width v = 17 + 4 * v := rfl
  simp only [List.mem_cons, List.not_mem_nil, or_false] at ho
  have hzone : (x < 7 ∨ width v ≤ x + 7) ∧ (y < 7 ∨ width v ≤ y + 7) ∧ (x < 7 ∨ y < 7) := by
    rcases ho with rfl | rfl | rfl <;> omega
  cases h with
  | @finder ex ey _ _ hcell' hbit =>
    obtain ⟨rfl, rfl⟩ : ex = dx ∧ ey = dy := by
      rcases ho with rfl | rfl | rfl <;> rcases hcell' with hcell' | hcell' | hcell' <;> omega
    exact hbit
  | align hc hdx hdy hcell =>
    have hclear := alignSquare_clear hv hc hdx hdy hcell
    omega
  | darkModule | timing | version => omega

theorem DarkPlace.not_separator {k : Nat} (hk : k < 8) : (x, y) ∉
    [(7, k), (k, 7), (width v - 8, k), (width v - 1 - k, 7), (7, width v - 1 - k), (k, width v - 8)] := by
  have hW : width v = 17 + 4 * v := rfl
  intro hc
  have hzone : (x < 8 ∨ width v ≤ x + 8) ∧ (y < 8 ∨ width v ≤ y + 8) ∧ (x < 8 ∨ y < 8) ∧
      (x = 7 ∨ x + 8 = width v ∨ y = 7 ∨ y + 8 = width v) := by
    simp only [List.mem_cons, List.not_mem_nil, or_false, Prod.ext_iff] at hc
    rcases hc with hc | hc | hc | hc | hc | hc <;> omega
  cases h with
  | finder _ _ hcell => rcases hcell with hcell | hcell | hcell <;> omega
  | align hc hdx hdy hcell =>
    have hclear := alignSquare_clear hv hc hdx hdy hcell
    omega
  | darkModule | timing | version => omega

theorem DarkPlace.align_bit {c : Nat × Nat} (hc : c ∈ alignCentres stdParams v) {dx dy : Nat} (hdx : dx < 5)
    (hdy : dy < 5) (hcell : x = c.1 + dx - 2 ∧ y = c.2 + dy - 2) :
    (max (absDiff dx 2) (absDiff dy 2) != 1) = true := by
  have hW : width v = 17 + 4 * v := rfl
  have hclear := alignSquare_clear hv hc hdx hdy hcell
  cases h with
  | align hd hex hey hcell' hbit =>
    obtain ⟨hcx, hcy, -⟩ := alignCentres_coordinates v (Nat.lt_succ_of_le hv) _ hc
    obtain ⟨hox, hoy, -⟩ := alignCentres_coordinates v (Nat.lt_succ_of_le hv) _ hd
    obtain rfl := hcx.offset_unique hv1 hv hox hdx hex (hcell.1.symm.trans hcell'.1)
    obtain rfl := hcy.offset_unique hv1 hv hoy hdy hey (hcell.2.symm.trans hcell'.2)
    exact hbit
  | timing _ _ heven hline =>
    rw [alignSquare_bit_on_timing_line hv hc hdx hdy hcell (by omega), beq_iff_eq]
    omega
  | finder | darkModule | version => omega

theorem DarkPlace.even_of_timing {k : Nat} (hlo : 8 ≤ k) (hhi : k + 9 ≤ width v) (hcell : (x, y) ∈ [(k, 6), (6, k)]) :
    k % 2 = 0 := by
  have hW : width v = 17 + 4 * v := rfl
  simp only [List.mem_cons, List.not_mem_nil, or_false, Prod.ext_iff] at hcell
  cases h with
  | align hc hdx hdy hsquare hbit =>
    rw [alignSquare_bit_on_timing_line hv hc hdx hdy hsquare (by omega), beq_iff_eq] at hbit
    omega
  | finder | darkModule | timing | version => omega

theorem DarkPlace.version_bit (hv7 : 7 ≤ v) {k : Nat} (hk : k < 18)
    (hcell : (x, y) ∈ [(k / 3, width v - 11 + k % 3), (width v - 11 + k % 3, k / 3)]) :
    (stdVersionWord v).getLsbD k = true := by
  have hW : width v = 17 + 4 * v := rfl
  simp only [List.mem_cons, List.not_mem_nil, or_false, Prod.ext_iff] at hcell
  cases h with
  | @version j _ _ _ hbit =>
    obtain rfl : j = k := by omega
    exact hbit
  | align hc hdx hdy hcell =>
    have hclear := alignSquare_clear hv hc hdx hdy hcell
    omega
  | finder | darkModule | timing => omega

theorem DarkPlace.not_format {k : Nat} (hk : k < 15) : (x, y) ∉ [cellA (width v) k, cellB k] := by
  have hW : width v = 17 + 4 * v := rfl
  intro hc
  have hzone : y = 8 ∧ (x < 9 ∧ x ≠ 6 ∨ width v ≤ x + 8) ∨ x = 8 ∧ (y < 9 ∧ y ≠ 6 ∨ width v ≤ y + 7) := by
    have hB : ∀ k < 15, (cellB k).2 = 8 ∧ (cellB k).1 < 9 ∧ (cellB k).1 ≠ 6 ∨
      (cellB k).1 = 8 ∧ (cellB k).2 < 9 ∧ (cellB k).2 ≠ 6 := by decide
    simp only [List.mem_cons, List.not_mem_nil, or_false] at hc
    rcases hc with hc | hc
    · unfold cellA at hc
      split at hc <;> obtain ⟨rfl, rfl⟩ := Prod.mk.inj hc <;> omega
    · have hcell := hB k hk
      rw [← hc] at hcell
      exact hcell.imp (fun ⟨hy, hx⟩ => ⟨hy, .inl hx⟩) (fun ⟨hx, hy⟩ => ⟨hx, .inl hy⟩)
  cases h with
  | finder _ _ hcell => rcases hcell with hcell | hcell | hcell <;> omega
  | align hc hdx hdy hcell =>
    have hclear := alignSquare_clear hv hc hdx hdy hcell
    omega
  | darkModule | timing | version => omega

end

end Sys2Proof.Machine
end

section
/-! SUPPORT. The frame FRAME_BUILD leaves in the matrices, pattern by pattern, and its free cells (43_frame.md R202–R212;
44_place.md R233). -/

namespace Sys2Proof.Machine

theorem IsPut.of_mem {v : Nat} {p : CellWrite} (hp : p ∈ framePuts stdParams v) : IsPut v p.x p.y := ⟨p, hp, rfl, rfl⟩

/-! ### The cells put -/

/-- Column 6 is the left finders' right edge, a separator cell next to each and the timing strip between (R203, R204, R208). -/
theorem isPut_column_six {v y : Nat} (hv1 : 1 ≤ v) (hy : y < width v) : IsPut v 6 y := by
  have hW : width v = 17 + 4 * v := rfl
  have hfinder {oy dy : Nat} (ho : (0, oy) ∈ [(0, 0), (width v - 7, 0), (0, width v - 7)]) (hdy : dy < 7) :
      IsPut v 6 (oy + dy) :=
    .of_mem (finders_subset _ _ (mem_finders.mpr ⟨(0, oy), ho, 6, by decide, dy, hdy, rfl⟩))
  have hseparator {c : Nat × Nat} (hc : c ∈
      [(7, 6), (6, 7), (width v - 8, 6), (width v - 1 - 6, 7), (7, width v - 1 - 6), (6, width v - 8)]) : IsPut v c.1 c.2 :=
    .of_mem (separators_subset _ _ (mem_separators.mpr ⟨6, by decide, c, hc, rfl⟩))
  by_cases htop : y < 7
  · simpa using hfinder (oy := 0) (by simp) htop
  by_cases hbottom : width v - 7 ≤ y
  · simpa [Nat.add_sub_cancel' hbottom] using hfinder (oy := width v - 7) (dy := y - (width v - 7)) (by simp) (by omega)
  by_cases hstrip : 8 ≤ y ∧ y + 9 ≤ width v
  · exact .of_mem (timing_subset _ _ (mem_timing.mpr ⟨y, hstrip.1, hstrip.2, (6, y), by simp, rfl⟩))
  · obtain rfl | rfl : y = 7 ∨ y = width v - 8 := by omega
    · exact hseparator (c := (6, 7)) (by simp)
    · exact hseparator (c := (6, width v - 8)) (by simp)

/-- Every pattern is drawn together with its transpose, the dark module with the last cell of the strip in row 8 (R212). -/
theorem IsPut.swap {v x y : Nat} (hv : v ≤ 40) (h : IsPut v x y) : IsPut v y x := by
  obtain ⟨p, hp, rfl, rfl⟩ := h
  rcases mem_framePuts.mp hp with hp | hp | hp | hp | hp | hp | hp
  · obtain ⟨o, ho, dx, hdx, dy, hdy, rfl⟩ := mem_finders.mp hp
    have ho' : o.swap ∈ [(0, 0), (width v - 7, 0), (0, width v - 7)] := by fin_cases ho <;> simp
    exact .of_mem (finders_subset _ _ (mem_finders.mpr ⟨o.swap, ho', dy, hdy, dx, hdx, rfl⟩))
  · obtain ⟨k, hk, c, hc, rfl⟩ := mem_separators.mp hp
    exact .of_mem (separators_subset _ _ (mem_separators.mpr ⟨k, hk, c.swap, by fin_cases hc <;> simp, rfl⟩))
  · obtain ⟨c, hc, dx, hdx, dy, hdy, rfl⟩ := mem_alignments.mp hp
    have hc' := alignCentres_swap v (Nat.lt_succ_of_le hv) c hc
    exact .of_mem (alignments_subset _ _ (mem_alignments.mpr ⟨c.swap, hc', dy, hdy, dx, hdx, rfl⟩))
  · obtain rfl := List.mem_singleton.mp hp
    exact .of_mem (p := ⟨width v - 8, 8, false⟩)
      (formatStrips_subset _ _ (mem_formatStrips.mpr (.inr (.inl ⟨7, by decide, rfl⟩))))
  · obtain ⟨k, hlo, hhi, c, hc, rfl⟩ := mem_timing.mp hp
    exact .of_mem (timing_subset _ _ (mem_timing.mpr ⟨k, hlo, hhi, c.swap, by fin_cases hc <;> simp, rfl⟩))
  · obtain ⟨hv7, k, hk, c, hc, rfl⟩ := mem_versionInfo.mp hp
    exact .of_mem (versionInfo_subset _ _ (mem_versionInfo.mpr ⟨hv7, k, hk, c.swap, by fin_cases hc <;> simp, rfl⟩))
  · rcases mem_formatStrips.mp hp with ⟨k, hk, c, hc, rfl⟩ | ⟨k, hk, rfl⟩ | ⟨k, hk, rfl⟩
    · exact .of_mem (formatStrips_subset _ _
        (mem_formatStrips.mpr (.inl ⟨k, hk, c.swap, by fin_cases hc <;> simp, rfl⟩)))
    · by_cases hlast : k < 7
      · exact .of_mem (formatStrips_subset _ _ (mem_formatStrips.mpr (.inr (.inr ⟨k, hlast, rfl⟩))))
      · obtain rfl : k = 7 := by omega
        exact .of_mem (p := ⟨8, width v - 8, true⟩) (darkModule_subset _ _ (List.mem_singleton.mpr rfl))
    · exact .of_mem (formatStrips_subset _ _ (mem_formatStrips.mpr (.inr (.inl ⟨k, by omega, rfl⟩))))

/-- The cells of the format word are cells of the strips (R211, R271). -/
theorem formatCell_mem_strips {W k : Nat} {c : Nat × Nat} (hW : 21 ≤ W) (hk : k < 15) (hc : c ∈ [cellA W k, cellB k]) :
    ⟨c.1, c.2, false⟩ ∈ formatStrips W := by
  have hB : ∀ k < 15, ∃ j < 9, cellB k ∈ [(j, 8), (8, j)] := by decide
  rw [mem_formatStrips]
  simp only [List.mem_cons (b := cellA W k), List.mem_singleton] at hc
  rcases hc with rfl | rfl
  · unfold cellA
    split
    · exact .inr (.inl ⟨k, by omega, rfl⟩)
    · exact .inr (.inr ⟨14 - k, by omega, by rw [show W - 7 + (k - 8) = W - 1 - (14 - k) by omega]⟩)
  · obtain ⟨j, hj, hmem⟩ := hB k hk
    exact .inl ⟨j, hj, _, hmem, rfl⟩

/-! ### The matrices after FRAME_BUILD -/

/-- The matrices hold the frame of version v and nothing beside it (R202). -/
def State.ShowsFrame (t : State) (v : Nat) : Prop :=
  ∀ x < width v, ∀ y < width v,
    (t.cell .reserved x y = true ↔ IsPut v x y) ∧ (t.cell .bitmap x y = true ↔ IsDarkPut v x y)

theorem showsFrame_of_exec_frameBuild {s t : State} (hlo : 1 ≤ s.ver) (hhi : s.ver ≤ 40) (hnew : s.frameBuilt = false)
    (hfits : s.arenaUsed.toNat + s.frameCharge ≤ s.arenaLimit.toNat) (h : exec .frameBuild s = .next t) :
    t.ShowsFrame s.ver := by
  have hcfg : s.cfgOk = true := State.cfgOk_iff.mpr ⟨hlo, hhi⟩
  obtain rfl : (frameBuildEffect stdParams s).complete = t :=
    Host.Outcome.next.inj ((exec_frameBuild hcfg hnew (State.allocFits_iff.mpr hfits)).symm.trans h)
  intro x hx y hy
  have hx8 : x < 8 * stride s.ver := by
    have := div_eight_lt_stride hx
    omega
  exact ⟨cell_reserved_frameBuildEffect hcfg hx8 hy, cell_bitmap_frameBuildEffect hcfg hx8 hy⟩

theorem absDiff_eq (a b : Nat) : absDiff a b = max a b - min a b := by unfold absDiff; omega

namespace State.ShowsFrame

section
variable {t : State} {v : Nat} (hv1 : 1 ≤ v) (hv : v ≤ 40) (ht : t.ShowsFrame v)
include hv1 hv ht

/-- A cell that no put but those like this one can draw dark reads as this put says (R202). -/
theorem cells_of_put {x y : Nat} {b : Bool} (hp : ⟨x, y, b⟩ ∈ framePuts stdParams v)
    (hdark : DarkPlace v x y → b = true) : t.cell .reserved x y = true ∧ t.cell .bitmap x y = b := by
  obtain ⟨hx, hy⟩ := framePuts_inside hv1 hv _ hp
  obtain ⟨hreserved, hbitmap⟩ := ht _ hx _ hy
  refine ⟨hreserved.mpr (.of_mem hp), Bool.eq_iff_iff.mpr (hbitmap.trans ?_)⟩
  exact ⟨fun h => hdark (darkPlace_of_isDarkPut h), fun h => ⟨_, hp, rfl, rfl, h⟩⟩

theorem finder {o : Nat × Nat} (ho : o ∈ [(0, 0), (width v - 7, 0), (0, width v - 7)]) {dx dy : Nat} (hdx : dx < 7)
    (hdy : dy < 7) :
    t.cell .reserved (o.1 + dx) (o.2 + dy) = true ∧
      (t.cell .bitmap (o.1 + dx) (o.2 + dy) = true ↔ max (max dx 3 - min dx 3) (max dy 3 - min dy 3) ≠ 2) := by
  have hput := finders_subset stdParams v (mem_finders.mpr ⟨o, ho, dx, hdx, dy, hdy, rfl⟩)
  obtain ⟨hreserved, hbitmap⟩ := ht.cells_of_put hv1 hv hput fun h => h.finder_bit hv1 hv ho hdx hdy ⟨rfl, rfl⟩
  exact ⟨hreserved, by rw [hbitmap, bne_iff_ne, absDiff_eq, absDiff_eq]⟩

theorem separator {k : Nat} (hk : k < 8) {c : Nat × Nat} (hc : c ∈
    [(7, k), (k, 7), (width v - 8, k), (width v - 1 - k, 7), (7, width v - 1 - k), (k, width v - 8)]) :
    t.cell .reserved c.1 c.2 = true ∧ t.cell .bitmap c.1 c.2 = false :=
  ht.cells_of_put hv1 hv (separators_subset _ _ (mem_separators.mpr ⟨k, hk, c, hc, rfl⟩)) fun h =>
    absurd hc (h.not_separator hv1 hv hk)

theorem align {c : Nat × Nat} (hc : c ∈ alignCentres stdParams v) {dx dy : Nat} (hdx : dx < 5) (hdy : dy < 5) :
    t.cell .reserved (c.1 - 2 + dx) (c.2 - 2 + dy) = true ∧
      (t.cell .bitmap (c.1 - 2 + dx) (c.2 - 2 + dy) = true ↔ max (max dx 2 - min dx 2) (max dy 2 - min dy 2) ≠ 1) := by
  have hput := alignments_subset stdParams v (mem_alignments.mpr ⟨c, hc, dx, hdx, dy, hdy, rfl⟩)
  obtain ⟨hreserved, hbitmap⟩ := ht.cells_of_put hv1 hv hput fun h => h.align_bit hv1 hv hc hdx hdy ⟨rfl, rfl⟩
  obtain ⟨⟨-, hx, -⟩, ⟨-, hy, -⟩, -⟩ := alignCentres_coordinates v (Nat.lt_succ_of_le hv) c hc
  rw [show c.1 - 2 + dx = c.1 + dx - 2 by omega, show c.2 - 2 + dy = c.2 + dy - 2 by omega]
  exact ⟨hreserved, by rw [hbitmap, bne_iff_ne, absDiff_eq, absDiff_eq]⟩

theorem darkModule : t.cell .reserved 8 (width v - 8) = true ∧ t.cell .bitmap 8 (width v - 8) = true :=
  ht.cells_of_put hv1 hv (darkModule_subset _ _ (List.mem_singleton.mpr rfl)) fun _ => rfl

theorem timing {k : Nat} (hlo : 8 ≤ k) (hhi : k + 9 ≤ width v) {c : Nat × Nat} (hc : c ∈ [(k, 6), (6, k)]) :
    t.cell .reserved c.1 c.2 = true ∧ (t.cell .bitmap c.1 c.2 = true ↔ k % 2 = 0) := by
  have hput := timing_subset stdParams v (mem_timing.mpr ⟨k, hlo, hhi, c, hc, rfl⟩)
  obtain ⟨hreserved, hbitmap⟩ := ht.cells_of_put hv1 hv hput fun h => beq_iff_eq.mpr (h.even_of_timing hv1 hv hlo hhi hc)
  exact ⟨hreserved, by rw [hbitmap, beq_iff_eq]⟩

theorem version (hv7 : 7 ≤ v) {k : Nat} (hk : k < 18) {c : Nat × Nat}
    (hc : c ∈ [(k / 3, width v - 11 + k % 3), (width v - 11 + k % 3, k / 3)]) :
    t.cell .reserved c.1 c.2 = true ∧ t.cell .bitmap c.1 c.2 = (stdParams.versionWord v).getLsbD k :=
  ht.cells_of_put hv1 hv (versionInfo_subset _ _ (mem_versionInfo.mpr ⟨hv7, k, hk, c, hc, rfl⟩)) fun h =>
    h.version_bit hv1 hv hv7 hk hc

theorem format {k : Nat} (hk : k < 15) {c : Nat × Nat} (hc : c ∈ [cellA (width v) k, cellB k]) :
    t.cell .reserved c.1 c.2 = true ∧ t.cell .bitmap c.1 c.2 = false := by
  have hW : 21 ≤ width v := by unfold width; omega
  exact ht.cells_of_put hv1 hv (formatStrips_subset _ _ (formatCell_mem_strips hW hk hc)) fun h =>
    absurd hc (h.not_format hv1 hv hk)

end

/-! ### Free cells -/

section
variable {t : State} {v : Nat} (ht : t.ShowsFrame v)
include ht

theorem bitmap_of_free {x y : Nat} (hx : x < width v) (hy : y < width v) (hfree : t.cell .reserved x y = false) :
    t.cell .bitmap x y = false := by
  obtain ⟨hreserved, hbitmap⟩ := ht x hx y hy
  rw [Bool.eq_false_iff] at hfree ⊢
  exact fun h => hfree (hreserved.mpr (hbitmap.mp h).isPut)

theorem reserved_symm (hv : v ≤ 40) {x y : Nat} (hx : x < width v) (hy : y < width v) :
    t.cell .reserved x y = t.cell .reserved y x := by
  rw [Bool.eq_iff_iff, (ht x hx y hy).1, (ht y hy x hx).1]
  exact ⟨.swap hv, .swap hv⟩

theorem freeCells (hv1 : 1 ≤ v) (hv : v ≤ 40) {l : Nat} (hl : l < 4) :
    ((List.range (width v)).map fun y => ((List.range (width v)).map fun x =>
      if t.cell .reserved x y = false then 1 else 0).sum).sum = 8 * (stdBlockTable v l).total + remainderCells v := by
  rw [← frame_freeCells hv1 hv hl]
  refine congrArg List.sum (List.map_congr_left fun y hy => congrArg List.sum (List.map_congr_left fun x hx => ?_))
  have hcell := (ht x (List.mem_range.mp hx) y (List.mem_range.mp hy)).1
  by_cases hput : IsPut v x y
  · exact (if_neg (by rw [hcell.mpr hput]; decide)).trans (if_pos hput).symm
  · exact (if_pos (Bool.eq_false_iff.mpr fun h => hput (hcell.mp h))).trans (if_neg hput).symm

end

end State.ShowsFrame

/-- F(v), the stream's bits and the remainder cells (R171, R233), is what the patterns leave of the matrix (R212). -/
theorem freeCells_by_pattern : ∀ v < 41, 1 ≤ v →
    8 * (stdBlockTable v 0).total + remainderCells v + 192 + 2 * (width v - 16) + 25 * (alignCentres stdParams v).length +
        31 + (if 7 ≤ v then 36 else 0) =
      width v * width v + 5 * ((alignCentres stdParams v).filter fun c => c.1 = 6 ∨ c.2 = 6).length := by
  decide +kernel

/-- Settles O42: every pattern's cells read as it draws them, since no other pattern draws its light cells dark; RESERVED is
symmetric, since the frame is drawn so; and the cells no pattern names were counted in `frame_freeCells`. -/
theorem frameGeometry : Obligations.FrameGeometry := by
  unfold Obligations.FrameGeometry
  rintro s t _ _ rfl hlo hhi rfl hnew hfits hexec
  have ht : t.ShowsFrame s.ver := showsFrame_of_exec_frameBuild hlo hhi hnew hfits hexec
  obtain ⟨hreserved, hdark⟩ := ht.darkModule hlo hhi
  refine ⟨fun o ho dx hdx dy hdy => ht.finder hlo hhi ho hdx hdy, fun k hk c hc => ht.separator hlo hhi hk hc, hreserved,
    hdark, fun k hk hclip c hc => ht.timing hlo hhi hk ?clip hc, fun hv7 k hk c hc => ht.version hlo hhi hv7 hk hc,
    fun k hk c hc => ht.format hlo hhi hk hc, fun y hy => ?column, fun x hx y hy => ht.bitmap_of_free hx hy,
    fun x hx y hy => ht.reserved_symm hhi hx hy, ?count⟩
  case clip => exact Nat.add_le_of_le_sub (by unfold width; omega) hclip
  case column => exact (ht 6 (by unfold width; omega) y hy).1.mpr (isPut_column_six hlo hy)
  case count =>
    rintro _ _ _ rfl rfl rfl
    refine ⟨?_, fun l hl => ht.freeCells hlo hhi hl⟩
    exact (congrArg (fun n => n + _ + _ + _ + _ + _) (ht.freeCells hlo hhi (l := 0) (by decide))).trans
      (freeCells_by_pattern s.ver (Nat.lt_succ_of_le hhi) hlo)

end Sys2Proof.Machine
end

section
/-! SUPPORT. The alignment centres of every version (43_frame.md R205, R206). -/

namespace Sys2Proof.Machine

/-- The pairs of coordinates whose squares would overlap finders (R206). -/
def finderCorners (v : Nat) : List (Nat × Nat) := [(6, 6), (6, 17 + 4 * v - 7), (17 + 4 * v - 7, 6)]

/-- A row of the table of R206, checked against the walk: the coordinates rise from 6 to W − 7 and are even, and the centres
are their pairs but the finders' corners, each once. -/
def fitsWalk (v : Nat) (coords : List Nat) : Bool :=
  decide (coords.head? = some 6 ∧ coords.getLast? = some (17 + 4 * v - 7) ∧ coords.Pairwise (· < ·) ∧
      ∀ c ∈ coords, c % 2 = 0) &&
    decide (((∀ c ∈ alignCentres stdParams v, c.1 ∈ coords ∧ c.2 ∈ coords ∧ c ∉ finderCorners v) ∧
        ∀ x ∈ coords, ∀ y ∈ coords, (x, y) ∉ finderCorners v → (x, y) ∈ alignCentres stdParams v) ∧
      (alignCentres stdParams v).length = coords.length * coords.length - 3)

theorem fitsWalk_iff {v : Nat} {coords : List Nat} :
    fitsWalk v coords = true ↔
      (coords.head? = some 6 ∧ coords.getLast? = some (17 + 4 * v - 7) ∧ coords.Pairwise (· < ·) ∧
        ∀ c ∈ coords, c % 2 = 0) ∧
      (∀ x y, (x, y) ∈ alignCentres stdParams v ↔ x ∈ coords ∧ y ∈ coords ∧ (x, y) ∉ finderCorners v) ∧
      (alignCentres stdParams v).length = coords.length * coords.length - 3 := by
  rw [fitsWalk, Bool.and_eq_true, decide_eq_true_iff, decide_eq_true_iff]
  refine and_congr_right fun _ => and_congr_left fun _ => ⟨?_, ?_⟩
  · exact fun ⟨hcentre, hpair⟩ x y => ⟨hcentre (x, y), fun ⟨hx, hy, hno⟩ => hpair x hx y hy hno⟩
  · exact fun h => ⟨fun c => (h c.1 c.2).mp, fun x hx y hy hno => (h x y).mpr ⟨hx, hy, hno⟩⟩

/-- A table with one row for each version from 2, every row checked. -/
theorem fitsWalk_of_table {table : List (List Nat)} (h : ∀ v < 41, 2 ≤ v → fitsWalk v (table.getD (v - 2) []) = true)
    {v : Nat} {coords : List Nat} (hlo : 2 ≤ v) (hhi : v ≤ 40) (hcoords : coords = table.getD (v - 2) []) :
    fitsWalk v coords = true := hcoords ▸ h v (Nat.lt_succ_of_le hhi) hlo

/-- Settles O43: the table's rows are checked against the walk, and every square reads as it is drawn. -/
theorem alignmentPatterns : Obligations.AlignmentPatterns := by
  unfold Obligations.AlignmentPatterns
  refine ⟨rfl, fun v coords hlo hhi hcoords => ?table, ?squares⟩
  case table =>
    obtain ⟨⟨hhead, hlast, hrise, heven⟩, hpairs, hlength⟩ :=
      fitsWalk_iff.mp (fitsWalk_of_table (by decide +kernel) hlo hhi hcoords)
    exact ⟨hhead, hlast, hrise, heven, hpairs, hlength⟩
  case squares =>
    rintro s t _ _ rfl hlo hhi rfl hnew hfits hexec c hc dx hdx dy hdy
    exact (showsFrame_of_exec_frameBuild hlo hhi hnew hfits hexec).align hlo hhi hc hdx hdy

end Sys2Proof.Machine
end

section
/-! SUPPORT. The zig-zag walk band by band, and the cells it visits (44_place.md R231, R234). The matrices have an odd width
W = 2n + 7, so n bands stand right of the timing column 6 and three left of it. -/

namespace Sys2Proof.Machine

/-! ### The bands -/

/-- The right columns of the bands of a W×W matrix: W − 1, W − 3, …, 8, then 5, 3, 1 (R231). -/
def rightColumns (W : Nat) : List Nat := ((List.range ((W - 7) / 2)).map fun k => W - 1 - 2 * k) ++ [5, 3, 1]

theorem rightColumns_succ (n : Nat) : rightColumns (2 * (n + 1) + 7) = (2 * n + 8) :: rightColumns (2 * n + 7) := by
  rw [rightColumns, show (2 * (n + 1) + 7 - 7) / 2 = n + 1 by omega, List.range_succ_eq_map, List.map_cons, List.map_map,
    List.cons_append, rightColumns, show (2 * n + 7 - 7) / 2 = n by omega]
  congr 2
  exact List.map_congr_left fun k _ => by rw [Function.comp_apply]; omega

theorem length_rightColumns (n : Nat) : (rightColumns (2 * n + 7)).length = n + 3 := by
  induction n with
  | zero => rfl
  | succ n ih => rw [rightColumns_succ, List.length_cons, ih]

/-- Right of the timing column every band is followed by the one two columns left of it, walked the other way. -/
theorem bands_right_of_timing (fuel n : Nat) (up : Bool) :
    bands (fuel + 1) (2 * (n + 1) + 6) up = (2 * n + 8, up) :: bands fuel (2 * n + 6) (!up) := rfl

/-- At the timing column the walk passes to column 5 (R231). -/
theorem bands_from_timing (fuel : Nat) (up : Bool) : bands (fuel + 4) 6 up = [(5, up), (3, !up), (1, up)] := by
  simp [bands]

/-- The bands are the right columns in order, the first walked as `up` says and then alternating (R231). -/
theorem bands_eq_rightColumns (n fuel : Nat) (up : Bool) :
    bands (n + (fuel + 4)) (2 * n + 6) up =
      (List.range (n + 3)).map fun j => ((rightColumns (2 * n + 7)).getD j 0, if j % 2 = 0 then up else !up) := by
  induction n generalizing up with
  | zero =>
    rw [Nat.zero_add, bands_from_timing]
    rfl
  | succ n ih =>
    rw [Nat.succ_add, bands_right_of_timing, ih, rightColumns_succ, Nat.add_right_comm n 1 3,
      List.range_succ_eq_map (n := n + 3), List.map_cons, List.map_map]
    refine congrArg _ (List.map_congr_left fun j _ => Prod.ext rfl ?_)
    have hparity : j.succ % 2 = 0 ↔ ¬j % 2 = 0 := by omega
    simp only [Function.comp_apply, hparity, Bool.not_not, ite_not]

theorem one_le_of_mem_bands {fuel col : Nat} {up : Bool} {b : Nat × Bool} (h : b ∈ bands fuel col up) : 1 ≤ b.1 := by
  induction fuel generalizing col up with
  | zero => simp [bands] at h
  | succ fuel ih =>
    unfold bands at h
    split at h
    next => simp at h
    next hcol =>
      rcases List.mem_cons.mp h with rfl | h
      · dsimp only; split <;> omega
      · exact ih h

/-- Later bands stand left of the two columns of an earlier one. -/
theorem pairwise_bands (fuel col : Nat) (up : Bool) : (bands fuel col up).Pairwise fun b c => c.1 + 2 ≤ b.1 := by
  induction fuel generalizing col up with
  | zero => exact .nil
  | succ fuel ih =>
    unfold bands
    split
    next => exact .nil
    next =>
      refine .cons (fun c hc => ?_) (ih _ _)
      have hle := bands_le hc
      have hpos := one_le_of_mem_bands hc
      dsimp only
      omega

/-- The bands of a matrix of width 2n + 7 cover its columns but 6. -/
theorem exists_mem_bands_column {n fuel x : Nat} {up : Bool} :
    (∃ b ∈ bands (n + (fuel + 4)) (2 * n + 6) up, x = b.1 ∨ x = b.1 - 1) ↔ x < 2 * n + 7 ∧ x ≠ 6 := by
  induction n generalizing up with
  | zero =>
    rw [Nat.zero_add, bands_from_timing]
    simp only [List.mem_cons, List.not_mem_nil, or_false, or_and_right, exists_or, exists_eq_left]
    omega
  | succ n ih =>
    rw [Nat.succ_add, bands_right_of_timing]
    simp only [List.mem_cons, or_and_right, exists_or, exists_eq_left, ih]
    omega

/-! ### The cells of a band -/

/-- The rows of a band in walking order (R231). -/
theorem bandCells_eq_rows (W col : Nat) (up : Bool) :
    bandCells W (col, up) = (List.range W).flatMap fun i =>
      [(col, if up = true then W - 1 - i else i), (col - 1, if up = true then W - 1 - i else i)] := by
  cases up with
  | false => rfl
  | true =>
    have hrows : (List.range W).reverse = (List.range W).map fun i => W - 1 - i := by
      rw [List.range_eq_range', List.reverse_range', ← List.range_eq_range', Nat.zero_add]
    rw [bandCells, if_pos rfl, hrows, List.flatMap_map]
    rfl

theorem nodup_bandCells (W : Nat) {b : Nat × Bool} (hb : 1 ≤ b.1) : (bandCells W b).Nodup := by
  have hrows : (if b.2 then (List.range W).reverse else List.range W).Nodup := by
    split
    · exact List.nodup_reverse.mpr List.nodup_range
    · exact List.nodup_range
  refine List.nodup_flatMap.mpr ⟨fun y _ => ?_, hrows.imp fun {y z} hne => ?_⟩
  · have hcol : b.1 ≠ b.1 - 1 := by omega
    simp [hcol]
  · simp [Function.onFun, List.Disjoint, hne]

/-- The cells of two bands do not meet. -/
theorem disjoint_bandCells (W : Nat) {b c : Nat × Bool} (h : c.1 + 2 ≤ b.1) :
    List.Disjoint (bandCells W b) (bandCells W c) := by
  intro cell hb hc
  obtain ⟨-, hb⟩ := mem_bandCells.mp hb
  obtain ⟨-, hc⟩ := mem_bandCells.mp hc
  omega

/-! ### The walk and the path -/

theorem walk_eq_rows (n : Nat) :
    walk (2 * n + 7) = (List.range (rightColumns (2 * n + 7)).length).flatMap fun j =>
      (List.range (2 * n + 7)).flatMap fun i =>
        [((rightColumns (2 * n + 7)).getD j 0, if j % 2 = 0 then 2 * n + 7 - 1 - i else i),
          ((rightColumns (2 * n + 7)).getD j 0 - 1, if j % 2 = 0 then 2 * n + 7 - 1 - i else i)] := by
  have hbands : bands (2 * n + 7) (2 * n + 6) true = _ :=
    (congrArg (bands · _ true) (by omega : 2 * n + 7 = n + (n + 3 + 4))).trans (bands_eq_rightColumns n (n + 3) true)
  rw [walk, Nat.add_sub_assoc (by decide), hbands, List.flatMap_map, length_rightColumns]
  refine List.flatMap_congr fun j _ => ?_
  rw [bandCells_eq_rows]
  by_cases hj : j % 2 = 0 <;> simp [hj]

theorem nodup_walk (W : Nat) : (walk W).Nodup :=
  List.nodup_flatMap.mpr ⟨fun _ hb => nodup_bandCells W (one_le_of_mem_bands hb),
    (pairwise_bands _ _ _).imp fun h => disjoint_bandCells W h⟩

/-- The walk visits every cell but the timing column's (R231, R234). -/
theorem mem_walk {n x y : Nat} : (x, y) ∈ walk (2 * n + 7) ↔ (x < 2 * n + 7 ∧ x ≠ 6) ∧ y < 2 * n + 7 := by
  rw [walk, Nat.add_sub_assoc (by decide), ← exists_mem_bands_column (fuel := n + 3) (up := true),
    (by omega : n + (n + 3 + 4) = 2 * n + 7), List.mem_flatMap, ← exists_and_right]
  simp only [mem_bandCells, and_assoc, and_comm (a := y < 2 * n + 7)]

theorem nodup_path (W : Nat) (reserved : Nat → Nat → Bool) : (path W reserved).Nodup := (nodup_walk W).filter _

theorem mem_path {n x y : Nat} {reserved : Nat → Nat → Bool} :
    (x, y) ∈ path (2 * n + 7) reserved ↔ ((x < 2 * n + 7 ∧ x ≠ 6) ∧ y < 2 * n + 7) ∧ reserved x y = false := by
  rw [path, List.mem_filter, mem_walk, Bool.not_eq_true']

/-- Settles O45: the bands are the right columns with alternating direction; they do not meet, and together they are every
column but the timing column. -/
theorem pathCoversFreeCells : Obligations.PathCoversFreeCells := by
  unfold Obligations.PathCoversFreeCells
  rintro v _ reserved _ - - rfl rfl
  rw [(by omega : 17 + 4 * v = 2 * (2 * v + 5) + 7)]
  refine ⟨congrArg (List.filter _) (walk_eq_rows (2 * v + 5)), nodup_path _ _, fun hcolumn x y => mem_path.trans ?_⟩
  constructor
  · rintro ⟨⟨⟨hx, -⟩, hy⟩, hfree⟩
    exact ⟨hx, hy, hfree⟩
  · rintro ⟨hx, hy, hfree⟩
    have hx6 : x ≠ 6 := by
      rintro rfl
      exact Bool.eq_false_iff.mp hfree (hcolumn y hy)
    exact ⟨⟨⟨hx, hx6⟩, hy⟩, hfree⟩

end Sys2Proof.Machine
end

section
/-! SUPPORT. PLACE: the stream's bits laid along the path, zeros behind them, and nothing else written (44_place.md R230,
R232, R233). -/

namespace Sys2Proof.Machine

/-! ### The bits of the stream -/

@[simp] theorem length_bitsOf (w n : Nat) : (bitsOf w n).length = w := by simp [bitsOf]

theorem getD_bitsOf {w n k : Nat} (hk : k < w) : (bitsOf w n).getD k false = n.testBit (w - 1 - k) := by
  rw [List.getD_eq_getElem _ _ (by rwa [length_bitsOf])]
  simp only [bitsOf, List.getElem_map, List.getElem_range]

/-- Bit n of a run of bytes is bit 7 − (n mod 8) of byte n div 8, and 0 behind the last byte (R232). -/
theorem getD_bytesToBits (bs : List Byte) (n : Nat) :
    (bytesToBits bs).getD n false = (bs.getD (n / 8) 0).getLsbD (7 - n % 8) := by
  induction bs generalizing n with
  | nil => exact BitVec.getLsbD_zero.symm
  | cons b bs ih =>
    rw [bytesToBits, List.flatMap_cons, ← bytesToBits]
    by_cases hn : n < 8
    · rw [List.getD_append _ _ _ _ (by rwa [length_bitsOf]), getD_bitsOf hn, Nat.div_eq_of_lt hn, Nat.mod_eq_of_lt hn,
        List.getD_cons_zero, BitVec.testBit_toNat]
    · have hn : 8 ≤ n := Nat.le_of_not_lt hn
      rw [List.getD_append_right _ _ _ _ (by rwa [length_bitsOf]), length_bitsOf, ih, Nat.div_eq_sub_div (by decide) hn,
        List.getD_cons_succ, Nat.mod_eq_sub_mod hn]

theorem getD_ramBytes (s : State) (r : Ram) (start : Nat) {n k : Nat} :
    (s.ramBytes r start n).getD k 0 = if k < n then s.ram r (start + k) else 0 := by
  split
  next hk =>
    rw [List.getD_eq_getElem _ _ (by rwa [length_ramBytes])]
    simp only [State.ramBytes, List.getElem_map, List.getElem_range]
  next hk => exact List.getD_eq_default _ _ (by rw [length_ramBytes]; exact Nat.le_of_not_lt hk)

theorem State.getD_streamBits (P : Params) (s : State) (n : Nat) :
    (s.streamBits P).getD n false =
      if n < 8 * (s.entry P).total then (s.ram .stream (n / 8)).getLsbD (7 - n % 8) else false := by
  rw [State.streamBits, getD_bytesToBits, getD_ramBytes, Nat.zero_add]
  have hbyte : n / 8 < (s.entry P).total ↔ n < 8 * (s.entry P).total := by omega
  by_cases hn : n < 8 * (s.entry P).total
  · rw [if_pos hn, if_pos (hbyte.mpr hn)]
  · rw [if_neg hn, if_neg (mt hbyte.mp hn)]
    exact BitVec.getLsbD_zero

/-! ### The writes along a path -/

/-- The nth cell of the path gets the nth bit, and 0 when the bits have run out (R232, R233). -/
theorem deposit_eq_mapIdx (p : List (Nat × Nat)) (bs : List Bool) :
    deposit p bs = p.mapIdx fun n c => ⟨c.1, c.2, bs.getD n false⟩ := by
  induction p generalizing bs with
  | nil => rfl
  | cons c p ih => cases bs <;> simp [deposit, ih]

theorem mem_deposit_iff {p : List (Nat × Nat)} {bs : List Bool} {w : CellWrite} :
    w ∈ deposit p bs ↔ ∃ n, ∃ h : n < p.length, ⟨p[n].1, p[n].2, bs.getD n false⟩ = w := by
  rw [deposit_eq_mapIdx, List.mem_mapIdx]

/-! ### PLACE -/

theorem exec_place {s : State} (hcfg : s.cfgOk = true) (hframe : s.frameBuilt = true) (hstream : s.streamValid = true) :
    exec .place s = .next (placeEffect stdParams s).complete := by
  rw [show exec .place s = execPlace s from rfl, execPlace, place, placeCheck_eq_none.mpr ⟨hcfg, hframe, hstream⟩,
    guarded_none, outcome_done]

section
variable (s : State)

theorem cell_placeEffect (x y : Nat) :
    (placeEffect stdParams s).cell .bitmap x y =
      Memory.cell s.ramDraw .bitmap (stride s.ver)
        (Memory.storeCells s.ramDraw .bitmap (stride s.ver) s.mem (s.placeWrites stdParams)) x y := by
  rw [State.cell, placeEffect_mem]; rfl

/-- The cells of the path after PLACE (R232, R233). -/
theorem cell_placeEffect_getElem {n : Nat} (hn : n < s.path.length) :
    (placeEffect stdParams s).cell .bitmap s.path[n].1 s.path[n].2 = (s.streamBits stdParams).getD n false := by
  have hmem : ⟨s.path[n].1, s.path[n].2, (s.streamBits stdParams).getD n false⟩ ∈ s.placeWrites stdParams :=
    mem_deposit_iff.mpr ⟨n, hn, rfl⟩
  have hinside : ∀ w ∈ s.placeWrites stdParams, w.x / 8 < stride s.ver := fun w hw =>
    div_eight_lt_stride (s.cellsInside_placeWrites w hw).1
  rw [cell_placeEffect]
  refine Memory.cell_storeCells_of_mem _ _ _ _ _ (hinside _ hmem) hinside ⟨_, hmem, rfl, rfl⟩ fun w hw hx hy => ?_
  obtain ⟨m, hm, rfl⟩ := mem_deposit_iff.mp hw
  have hsame : m = n := (nodup_path _ _).getElem_inj_iff.mp (Prod.ext hx hy)
  exact congrArg (fun k => (s.streamBits stdParams).getD k false) hsame

/-- PLACE leaves every cell and padding bit off the path alone. -/
theorem cell_placeEffect_of_not_mem {x y : Nat} (hx : x < 8 * stride s.ver) (h : (x, y) ∉ s.path) :
    (placeEffect stdParams s).cell .bitmap x y = s.cell .bitmap x y := by
  rw [cell_placeEffect]
  refine Memory.cell_storeCells_of_ne _ _ _ _ _ (div_eight_lt_of_lt hx)
    (fun w hw => div_eight_lt_stride (s.cellsInside_placeWrites w hw).1) ?_
  rintro w hw ⟨rfl, rfl⟩
  exact h (mem_deposit hw)

theorem byteAt_placeEffect_of_ne {a : Nat} (ha : ∀ k < matrixBytes s.ver, a ≠ Ram.bitmap.addr k) :
    (placeEffect stdParams s).byteAt a = s.byteAt a := by
  rw [State.byteAt, placeEffect_mem]
  refine Memory.byte_storeCells_of_ne _ _ _ _ _ _ fun w hw => ?_
  obtain ⟨hx, hy⟩ := s.cellsInside_placeWrites w hw
  exact ha _ (cellByte_lt hx hy)

end

/-- Settles O46: PLACE writes one bit for each cell of the path, whose cells are all different, and no other. -/
theorem placeResult : Obligations.PlaceResult := by
  unfold Obligations.PlaceResult
  rintro s _ _ _ _ rfl hlo hhi rfl rfl hframe hstream rfl
  refine ⟨_, exec_place (State.cfgOk_iff.mpr ⟨hlo, hhi⟩) hframe hstream, rfl, ?_,
    fun x hx y _ hoff => cell_placeEffect_of_not_mem s hx hoff, fun a ha => byteAt_placeEffect_of_ne s ha⟩
  rintro n hn _ rfl
  rw [List.getD_eq_getElem _ _ hn]
  exact (cell_placeEffect_getElem s hn).trans (s.getD_streamBits stdParams n)

end Sys2Proof.Machine
end

section
/-! SUPPORT. The run list of a line (45_mask_format.md R254). -/

namespace Sys2Proof.Machine

/-! ### Reading a run list back -/

/-- The cells a run list stands for: runs of alternating colour, the first of colour `c` (R254). -/
def spellRuns (c : Bool) (r : List Nat) : List Bool :=
  (List.range r.length).flatMap fun k => List.replicate (r.getD k 0) (c ^^ (k % 2 == 1))

theorem spellRuns_nil (c : Bool) : spellRuns c [] = [] := rfl

theorem spellRuns_cons (c : Bool) (n : Nat) (r : List Nat) :
    spellRuns c (n :: r) = List.replicate n c ++ spellRuns (!c) r := by
  have hflip (k : Nat) : (c ^^ ((k + 1) % 2 == 1)) = (!c ^^ (k % 2 == 1)) := by
    rcases Nat.mod_two_eq_zero_or_one k with h | h <;> simp [Nat.add_mod, h]
  simp only [spellRuns, List.length_cons, List.range_succ_eq_map, List.flatMap_cons, List.flatMap_map,
    List.getD_cons_zero, List.getD_cons_succ, hflip]
  simp

theorem spellRuns_runsFrom (cur : Bool) (n : Nat) (line : List Bool) :
    spellRuns cur (runsFrom cur n line) = List.replicate n cur ++ line := by
  induction line generalizing cur n with
  | nil => rw [runsFrom, spellRuns_cons, spellRuns_nil]
  | cons c cs ih =>
    rw [runsFrom]
    split
    next hsame => rw [ih, hsame, List.replicate_succ', List.append_assoc, List.singleton_append]
    next hother =>
      have hc : (!cur) = c := (Bool.eq_not.mpr hother).symm
      rw [spellRuns_cons, hc, ih, List.replicate_one, List.singleton_append]

/-! ### Which runs are empty, how many there are, and their sum -/

/-- Once a run is begun, no run of the list is empty. -/
theorem one_le_of_mem_runsFrom {cur : Bool} {n : Nat} (hn : 1 ≤ n) {line : List Bool} :
    ∀ r ∈ runsFrom cur n line, 1 ≤ r := by
  induction line generalizing cur n with
  | nil => simpa [runsFrom] using hn
  | cons c cs ih =>
    rw [runsFrom]
    split
    · exact ih (by omega)
    · exact List.forall_mem_cons.mpr ⟨hn, ih le_rfl⟩

theorem one_le_of_mem_tail_runsFrom {cur : Bool} {n : Nat} {line : List Bool} :
    ∀ r ∈ (runsFrom cur n line).tail, 1 ≤ r := by
  induction line generalizing cur n with
  | nil => simp [runsFrom]
  | cons c cs ih =>
    rw [runsFrom]
    split
    · exact ih
    · exact one_le_of_mem_runsFrom le_rfl

theorem length_runsFrom_pos (cur : Bool) (n : Nat) (line : List Bool) : 1 ≤ (runsFrom cur n line).length := by
  induction line generalizing n with
  | nil => exact le_rfl
  | cons c cs ih =>
    rw [runsFrom]
    split
    · exact ih _
    · exact Nat.le_add_left 1 _

theorem length_runsFrom_le (cur : Bool) (n : Nat) (line : List Bool) :
    (runsFrom cur n line).length ≤ line.length + 1 := by
  induction line generalizing cur n with
  | nil => exact le_rfl
  | cons c cs ih =>
    rw [runsFrom]
    split
    · exact (ih _ _).trans (Nat.le_succ _)
    · exact Nat.succ_le_succ (ih _ _)

theorem sum_runsFrom (cur : Bool) (n : Nat) (line : List Bool) : (runsFrom cur n line).sum = n + line.length := by
  induction line generalizing cur n with
  | nil => exact Nat.add_zero n
  | cons c cs ih =>
    rw [runsFrom, List.length_cons]
    split
    · rw [ih]; omega
    · rw [List.sum_cons, ih]; omega

/-- Settles O50: reading the run list back undoes `runsFrom`, run by run, and a run is begun by a cell of its colour. -/
theorem runListSpellsLine : Obligations.RunListSpellsLine := by
  unfold Obligations.RunListSpellsLine
  intro line
  refine ⟨?_, fun k hk1 hk => ?_, length_runsFrom_pos false 0 line⟩
  · have hspell := spellRuns_runsFrom false 0 line
    simpa only [spellRuns, runList, Bool.false_xor, List.replicate_zero, List.nil_append] using hspell
  · obtain ⟨j, rfl⟩ := Nat.exists_eq_add_of_le' hk1
    have hj : j < (runList line).tail.length := by rw [List.length_tail]; omega
    rw [List.getD_eq_getElem _ _ hk, ← List.getElem_tail hj]
    exact one_le_of_mem_tail_runsFrom _ (List.getElem_mem hj)

end Sys2Proof.Machine
end

section
/-! SUPPORT. The penalty rules on a matrix given by its cells (45_mask_format.md R255–R259). -/

namespace Sys2Proof.Machine

/-! ### The lines, blocks and dark cells of a matrix -/

theorem gridLines_gridOf (W : Nat) (c : Nat → Nat → Bool) :
    gridLines W (gridOf W c) =
      ((List.range W).map fun y => (List.range W).map fun x => c x y) ++
        (List.range W).map fun x => (List.range W).map fun y => c x y := by
  refine congrArg (gridOf W c ++ ·) (List.map_congr_left fun x hx => ?_)
  rw [gridOf, List.map_map]
  refine List.map_congr_left fun y _ => ?_
  simp [List.mem_range.mp hx]

theorem map_range_succ {α : Type} (f : Nat → α) (n : Nat) :
    (List.range (n + 1)).map f = f 0 :: (List.range n).map fun k => f (k + 1) := by
  rw [List.range_succ_eq_map, List.map_cons, List.map_map]; rfl

theorem rowBlocks_map_range (f g : Nat → Bool) (n : Nat) :
    rowBlocks ((List.range (n + 1)).map f) ((List.range (n + 1)).map g) =
      ((List.range n).map fun x =>
        if f x = f (x + 1) ∧ f (x + 1) = g x ∧ g x = g (x + 1) then 3 else 0).sum := by
  induction n generalizing f g with
  | zero => rfl
  | succ n ih =>
    have ih := ih (fun k => f (k + 1)) (fun k => g (k + 1))
    simp only [map_range_succ] at ih ⊢
    rw [rowBlocks, ih, List.sum_cons]

theorem blocksPenalty_map_range (row : Nat → List Bool) (n : Nat) :
    blocksPenalty ((List.range (n + 1)).map row) =
      ((List.range n).map fun y => rowBlocks (row y) (row (y + 1))).sum := by
  induction n generalizing row with
  | zero => rfl
  | succ n ih =>
    have ih := ih fun k => row (k + 1)
    simp only [map_range_succ] at ih ⊢
    rw [blocksPenalty, ih, List.sum_cons]

theorem blocksPenalty_gridOf {W : Nat} (hW : 1 ≤ W) (c : Nat → Nat → Bool) :
    blocksPenalty (gridOf W c) =
      ((List.range (W - 1)).map fun y => ((List.range (W - 1)).map fun x =>
        if c x y = c (x + 1) y ∧ c x y = c x (y + 1) ∧ c x y = c (x + 1) (y + 1) then 3 else 0).sum).sum := by
  obtain ⟨n, rfl⟩ := Nat.exists_eq_add_of_le' hW
  have hcolour (p q r s : Bool) : (p = q ∧ q = r ∧ r = s) ↔ (p = q ∧ p = r ∧ p = s) := by
    constructor <;> rintro ⟨rfl, rfl, rfl⟩ <;> exact ⟨rfl, rfl, rfl⟩
  simp only [gridOf, blocksPenalty_map_range, rowBlocks_map_range, hcolour, Nat.add_sub_cancel]

theorem count_true_map {α : Type} (p : α → Bool) (l : List α) :
    (l.map p).count true = (l.map fun a => if p a = true then 1 else 0).sum := by
  induction l with
  | nil => rfl
  | cons a l ih => rw [List.map_cons, List.count_cons, ih, List.map_cons, List.sum_cons, Nat.add_comm]; simp

theorem darkCount_gridOf (W : Nat) (c : Nat → Nat → Bool) :
    darkCount (gridOf W c) =
      ((List.range W).map fun y => ((List.range W).map fun x => if c x y = true then 1 else 0).sum).sum := by
  simp only [darkCount, gridOf, List.map_map, Function.comp_def, count_true_map]

/-! ### The finder-like pattern -/

/-- The condition of rule 3 as R257 words it. -/
theorem finderLike_iff (r : List Nat) (i : Nat) :
    finderLike r i = true ↔
      r.getD (i - 2) 0 = r.getD (i - 1) 0 ∧ r.getD (i + 1) 0 = r.getD (i - 1) 0 ∧
        r.getD (i + 2) 0 = r.getD (i - 1) 0 ∧ r.getD i 0 = 3 * r.getD (i - 1) 0 ∧
        (r.getD (i - 3) 0 = 0 ∨ 4 * r.getD i 0 ≤ 3 * r.getD (i - 3) 0 ∨
          r.length ≤ i + 3 ∨ 4 * r.getD i 0 ≤ 3 * r.getD (i + 3) 0) := by
  have hlast : r.length - 1 < i + 3 ↔ r.length ≤ i + 3 := by omega
  simp only [finderLike, Bool.and_eq_true, Bool.or_eq_true, beq_iff_eq, decide_eq_true_eq, hlast, and_assoc, or_assoc]

/-- Settles O51: the lines, blocks and dark cells of the grid are those of the cells, rule by rule. -/
theorem penaltyRules : Obligations.PenaltyRules := by
  unfold Obligations.PenaltyRules
  rintro W c _ hW rfl
  refine ⟨?runs, blocksPenalty_gridOf hW c, ?finders, darkCount_gridOf W c, ?balance⟩
  case runs => rw [penalties, gridLines_gridOf]; rfl
  case finders =>
    have hinside (r : List Nat) (i : Nat) : i + 2 ≤ r.length - 1 ↔ i + 2 < r.length := by omega
    simp only [penalties, gridLines_gridOf, findersPenalty, finderLike_iff, hinside]
  case balance =>
    have hdiff (a b : Nat) : a - b + (b - a) = max a b - min a b := by omega
    rw [← hdiff]; rfl

/-! ### The scores fit their registers -/

theorem runsPenalty_le_sum (r : List Nat) : runsPenalty r ≤ r.sum := by
  have hrun : ∀ n ∈ r, (if 5 ≤ n then 3 + (n - 5) else 0) ≤ n := by
    intro n _
    split <;> omega
  exact (List.sum_le_sum hrun).trans_eq (by rw [List.map_id'])

theorem sum_map_le_mul {α : Type} {l : List α} {f : α → Nat} {b : Nat} (h : ∀ a ∈ l, f a ≤ b) :
    (l.map f).sum ≤ l.length * b := by
  have hsum := List.sum_le_card_nsmul (l.map f) b (List.forall_mem_map.mpr h)
  rwa [List.length_map, smul_eq_mul] at hsum

theorem findersPenalty_le (r : List Nat) : findersPenalty r ≤ r.length * 40 := by
  have hterm (i : Nat) :
      (if i % 2 = 1 ∧ 3 ≤ i ∧ i + 2 ≤ r.length - 1 ∧ finderLike r i = true then 40 else 0) ≤ 40 := by
    split <;> decide
  exact (sum_map_le_mul fun i _ => hterm i).trans_eq (by rw [List.length_range])

theorem length_of_mem_gridLines {W : Nat} {c : Nat → Nat → Bool} : ∀ l ∈ gridLines W (gridOf W c), l.length = W := by
  intro l hl
  rw [gridLines_gridOf, List.mem_append, List.mem_map, List.mem_map] at hl
  rcases hl with ⟨k, -, rfl⟩ | ⟨k, -, rfl⟩ <;> rw [List.length_map, List.length_range]

theorem length_gridLines (W : Nat) (c : Nat → Nat → Bool) : (gridLines W (gridOf W c)).length = W + W := by
  rw [gridLines_gridOf, List.length_append, List.length_map, List.length_map, List.length_range]

section
variable (W : Nat) (c : Nat → Nat → Bool)

theorem penalties_p1_le : (penalties W (gridOf W c)).p1 ≤ (W + W) * W := by
  have hline : ∀ l ∈ gridLines W (gridOf W c), runsPenalty (runList l) ≤ W := fun l hl =>
    (runsPenalty_le_sum _).trans_eq (by rw [runList, sum_runsFrom, Nat.zero_add, length_of_mem_gridLines l hl])
  exact (sum_map_le_mul hline).trans_eq (by rw [length_gridLines])

theorem penalties_p3_le : (penalties W (gridOf W c)).p3 ≤ (W + W) * ((W + 1) * 40) := by
  have hline : ∀ l ∈ gridLines W (gridOf W c), findersPenalty (runList l) ≤ (W + 1) * 40 := fun l hl =>
    (findersPenalty_le _).trans (Nat.mul_le_mul_right _ (length_of_mem_gridLines l hl ▸ length_runsFrom_le false 0 l))
  exact (sum_map_le_mul hline).trans_eq (by rw [length_gridLines])

/-- A sum over an n×n square of terms of at most b. -/
theorem sum_square_le {n b : Nat} {f : Nat → Nat → Nat} (h : ∀ x y, f x y ≤ b) :
    ((List.range n).map fun y => ((List.range n).map fun x => f x y).sum).sum ≤ n * (n * b) := by
  have hrow (y : Nat) : ((List.range n).map fun x => f x y).sum ≤ n * b :=
    (sum_map_le_mul fun x _ => h x y).trans_eq (by rw [List.length_range])
  exact (sum_map_le_mul fun y _ => hrow y).trans_eq (by rw [List.length_range])

theorem penalties_p2_le (hW : 1 ≤ W) : (penalties W (gridOf W c)).p2 ≤ (W - 1) * ((W - 1) * 3) := by
  refine (blocksPenalty_gridOf hW c).trans_le (sum_square_le fun x y => ?_)
  split <;> decide

theorem darkCount_le : darkCount (gridOf W c) ≤ W * W := by
  rw [darkCount_gridOf]
  refine (sum_square_le (b := 1) fun x y => ?_).trans_eq (by rw [Nat.mul_one])
  split <;> decide

/-- Of N cells at most N are dark, so the imbalance is at most the whole (R258). -/
theorem penalties_p4_le : (penalties W (gridOf W c)).p4 ≤ 100 := by
  have hdark := darkCount_le W c
  have himbalance : 2 * darkCount (gridOf W c) - W * W + (W * W - 2 * darkCount (gridOf W c)) ≤ W * W := by omega
  have hquot := Nat.div_le_of_le_mul (Nat.mul_comm (W * W) 10 ▸ Nat.mul_le_mul_left 10 himbalance)
  exact Nat.mul_le_mul_left 10 hquot

end

theorem penalties_total_lt {W : Nat} (c : Nat → Nat → Bool) (hW : 1 ≤ W) (hmax : W ≤ 177) :
    (penalties W (gridOf W c)).total < 2 ^ 32 := by
  have h1 : (penalties W (gridOf W c)).p1 ≤ (177 + 177) * 177 :=
    (penalties_p1_le W c).trans (by gcongr)
  have h2 : (penalties W (gridOf W c)).p2 ≤ 176 * (176 * 3) :=
    (penalties_p2_le W c hW).trans (by gcongr <;> omega)
  have h3 : (penalties W (gridOf W c)).p3 ≤ (177 + 177) * ((177 + 1) * 40) :=
    (penalties_p3_le W c).trans (by gcongr)
  have h4 := penalties_p4_le W c
  unfold Penalty.total
  omega

/-- Settles O53: at the greatest width, 177, each rule's worst case is far below 2^32. -/
theorem scoresFit : Obligations.ScoresFit := by
  unfold Obligations.ScoresFit
  intro v c hlo hhi
  exact penalties_total_lt c (by omega) (by omega)

end Sys2Proof.Machine
end

section
/-! SUPPORT. The mask predicates, a mask applied twice, and MASK_SCORE (45_mask_format.md R251, R253, R260). -/

namespace Sys2Proof.Machine

/-- Settles O47: each line of the predicate table is one of the rule's predicates, its test read as an equation. -/
theorem maskPredicates : Obligations.MaskPredicates := by
  unfold Obligations.MaskPredicates
  intro x y
  refine ⟨?_, ?_, ?_, ?_, ?_, ?_, ?_, ?_⟩ <;> exact beq_iff_eq

/-! ### The matrix once a command has completed -/

@[simp] theorem State.complete_cell (s : State) : s.complete.cell = s.cell := rfl

@[simp] theorem State.complete_byteAt (s : State) : s.complete.byteAt = s.byteAt := rfl

/-! ### A mask applied twice (R253) -/

/-- Every bit of a matrix's bytes is a cell or a padding bit of some row (R72). -/
theorem exists_cell_of_bit {S W k i : Nat} (hk : k < W * S) (hi : i < 8) :
    ∃ x < 8 * S, ∃ y < W, cellByte S x y = k ∧ cellBit x = i := by
  have hcol : k % S < S := Nat.mod_lt k (Nat.pos_of_lt_mul_left hk)
  refine ⟨8 * (k % S) + (7 - i), by omega, k / S, Nat.div_lt_of_lt_mul (Nat.mul_comm W S ▸ hk), ?_, ?_⟩
  · have hbyte : (8 * (k % S) + (7 - i)) / 8 = k % S := by omega
    rw [cellByte, hbyte, Nat.mul_comm, Nat.div_add_mod]
  · unfold cellBit; omega

/-- A state that agrees with another on every cell and padding bit of BITMAP and on every other byte agrees with it on all
bytes. -/
theorem State.byteAt_eq_of_cells {s t : State}
    (hcells : ∀ x < 8 * stride s.ver, ∀ y < width s.ver, t.cell .bitmap x y = s.cell .bitmap x y) (hver : t.ver = s.ver)
    (hrest : ∀ a, (∀ k < matrixBytes s.ver, a ≠ Ram.bitmap.addr k) → t.byteAt a = s.byteAt a) (a : Nat) :
    t.byteAt a = s.byteAt a := by
  by_cases ha : ∃ k < matrixBytes s.ver, a = Ram.bitmap.addr k
  · obtain ⟨k, hk, rfl⟩ := ha
    refine BitVec.eq_of_getLsbD_eq fun i hi => ?_
    obtain ⟨x, hx, y, hy, hbyte, hbit⟩ := exists_cell_of_bit hk hi
    have hcell := hcells x hx y hy
    simp only [State.cell, Memory.cell, hver, hbyte, hbit] at hcell
    exact hcell
  · exact hrest a fun k hk e => ha ⟨k, hk, e⟩

theorem cell_reserved_maskApplyEffect {s : State} (hcfg : s.cfgOk = true) (m : Nat) {x y : Nat} (hx : x < width s.ver)
    (hy : y < width s.ver) : (maskApplyEffect stdParams m s).cell .reserved x y = s.cell .reserved x y := by
  refine Memory.cell_congr ?_
  rw [maskApplyEffect_mem]
  exact (s.cellsInside_maskWrites m).byte_storeCells hcfg rfl (by decide) (State.cellByte_lt_size hcfg hx hy)

/-- RESERVED is untouched, so the second pass of a mask inverts the same cells as the first (R253). -/
theorem cell_maskApplyEffect_twice {s : State} (hcfg : s.cfgOk = true) (m : Nat) {x y : Nat} (hx : x < 8 * stride s.ver)
    (hy : y < width s.ver) :
    (maskApplyEffect stdParams m (maskApplyEffect stdParams m s).complete).cell .bitmap x y = s.cell .bitmap x y := by
  refine (cell_maskApplyEffect stdParams (maskApplyEffect stdParams m s).complete m hx hy).trans ?_
  rw [State.complete_cell, cell_maskApplyEffect stdParams s m hx hy]
  by_cases hxW : x < width s.ver
  · rw [cell_reserved_maskApplyEffect hcfg m hxW hy, show (maskApplyEffect stdParams m s).complete.ver = s.ver from rfl]
    split
    · exact Bool.not_not _
    · rfl
  · rw [if_neg fun h => hxW h.1, if_neg fun h => hxW h.1]

/-- Settles O49: the second pass gives every cell back, and neither pass writes a byte outside the matrix. -/
theorem maskIsSelfInverse : Obligations.MaskIsSelfInverse := by
  unfold Obligations.MaskIsSelfInverse
  intro s m hlo hhi hframe _
  have hcfg : s.cfgOk = true := State.cfgOk_iff.mpr ⟨hlo, hhi⟩
  refine ⟨_, _, exec_maskApply m hcfg hframe,
    exec_maskApply (s := (maskApplyEffect stdParams m s).complete) m hcfg hframe,
    State.byteAt_eq_of_cells (fun x hx y hy => cell_maskApplyEffect_twice hcfg m hx hy) rfl fun a ha => ?_⟩
  exact (byteAt_maskApplyEffect_of_ne stdParams (maskApplyEffect stdParams m s).complete m ha).trans
    (byteAt_maskApplyEffect_of_ne stdParams s m ha)

/-! ### MASK_SCORE -/

theorem exec_maskScore {s : State} (hcfg : s.cfgOk = true) (hframe : s.frameBuilt = true) :
    exec .maskScore s = .next (maskScoreEffect s).complete := by
  rw [show exec .maskScore s = execMaskScore s from rfl, execMaskScore, frameCheck_eq_none.mpr ⟨hcfg, hframe⟩,
    guarded_none, outcome_done]

/-- Settles O52: MASK_SCORE writes the penalties of BITMAP read out, and its six registers alone. -/
theorem maskScoreResult : Obligations.MaskScoreResult := by
  unfold Obligations.MaskScoreResult
  rintro s _ _ rfl hlo hhi hframe rfl
  exact exec_maskScore (State.cfgOk_iff.mpr ⟨hlo, hhi⟩) hframe

end Sys2Proof.Machine
end

section
/-! SUPPORT. FORMAT_EMBED: the 30 cells of the format word, and nothing else written (45_mask_format.md R271, R272). -/

namespace Sys2Proof.Machine

theorem exec_formatEmbed {s : State} (m : Nat) (hcfg : s.cfgOk = true) (hframe : s.frameBuilt = true) :
    exec (.formatEmbed m) s = .next (formatEmbedEffect stdParams m s).complete := by
  rw [show exec (.formatEmbed m) s = execFormatEmbed m s from rfl, execFormatEmbed, formatEmbed,
    frameCheck_eq_none.mpr ⟨hcfg, hframe⟩, guarded_none, outcome_done]

/-- The registers FORMAT_EMBED leaves (R272). -/
theorem formatEmbedEffect_complete_eq (P : Params) (m : Nat) (s : State) :
    (formatEmbedEffect P m s).complete = { s with
      mem := (formatEmbedEffect P m s).complete.mem
      symbolValid := s.selected && s.bestValid && decide (m = s.bestId.toNat)
      seq := .idle
      done := true } := by
  simp only [formatEmbedEffect, State.complete, State.embedsWinner]

section
variable {s : State} (hcfg : s.cfgOk = true) (P : Params) (m : Nat)
include hcfg

/-- Both cells of bit k hold it after FORMAT_EMBED (R272). -/
theorem cell_formatEmbedEffect {k x y : Nat} (hk : k < 15) (hc : (x, y) = cellA (width s.ver) k ∨ (x, y) = cellB k) :
    (formatEmbedEffect P m s).cell .bitmap x y = (P.formatWord s.level m).getLsbD k := by
  rw [State.cell, formatEmbedEffect_mem]
  exact State.cell_formatWrites hcfg hk hc _

/-- FORMAT_EMBED leaves every cell and padding bit but the 30 of R271 alone. -/
theorem cell_formatEmbedEffect_of_ne {x y : Nat} (hx : x < 8 * stride s.ver)
    (hoff : ∀ k < 15, (x, y) ≠ cellA (width s.ver) k ∧ (x, y) ≠ cellB k) :
    (formatEmbedEffect P m s).cell .bitmap x y = s.cell .bitmap x y := by
  rw [State.cell, formatEmbedEffect_mem]
  refine Memory.cell_storeCells_of_ne _ _ _ _ _ (div_eight_lt_of_lt hx)
    (fun w hw => div_eight_lt_stride (State.cellsInside_formatWrites hcfg _ w hw).1) ?_
  rintro w hw ⟨rfl, rfl⟩
  obtain ⟨k, hk, rfl | rfl⟩ := mem_formatWrites.mp hw
  · exact (hoff k hk).1 rfl
  · exact (hoff k hk).2 rfl

theorem byteAt_formatEmbedEffect_of_ne {a : Nat} (ha : ∀ k < matrixBytes s.ver, a ≠ Ram.bitmap.addr k) :
    (formatEmbedEffect P m s).byteAt a = s.byteAt a := by
  rw [State.byteAt, formatEmbedEffect_mem]
  refine Memory.byte_storeCells_of_ne _ _ _ _ _ _ fun w hw => ?_
  obtain ⟨hx, hy⟩ := State.cellsInside_formatWrites hcfg _ w hw
  exact ha _ (cellByte_lt hx hy)

end

theorem cellA_eq_row {W i : Nat} (hi : i < 8) : cellA W i = (W - 1 - i, 8) := if_pos hi

theorem cellA_eq_column (W j : Nat) : cellA W (8 + j) = (8, W - 7 + j) := by
  rw [cellA, if_neg (by omega), Nat.add_sub_cancel_left]

theorem cellB_eq_column : ∀ i < 8, cellB i = (8, if i < 6 then i else i + 1) := by decide

theorem cellB_eq_row : ∀ j < 7, cellB (8 + j) = (if j = 0 then 7 else 6 - j, 8) := by decide

/-- Settles O55: FORMAT_EMBED's writes are the 30 cells of R271, each bit's two cells given that bit and no other. -/
theorem formatEmbedResult : Obligations.FormatEmbedResult := by
  unfold Obligations.FormatEmbedResult
  rintro s _ _ m rfl hlo hhi rfl hframe -
  have hcfg : s.cfgOk = true := State.cfgOk_iff.mpr ⟨hlo, hhi⟩
  have hbit {k x y : Nat} (hk : k < 15) (hc : (x, y) = cellA (width s.ver) k ∨ (x, y) = cellB k) :=
    cell_formatEmbedEffect hcfg stdParams m hk hc
  refine ⟨_, exec_formatEmbed m hcfg hframe, formatEmbedEffect_complete_eq _ m s, ?_⟩
  rw [State.complete_cell, State.complete_byteAt]
  refine ⟨fun i hi => ⟨?_, ?_⟩, fun j hj => ⟨?_, ?_⟩,
    fun x hx y _ hoff => cell_formatEmbedEffect_of_ne hcfg stdParams m hx hoff,
    fun a ha => byteAt_formatEmbedEffect_of_ne hcfg stdParams m ha⟩
  · exact hbit (by omega) (.inl (cellA_eq_row hi).symm)
  · exact hbit (by omega) (.inr (cellB_eq_column i hi).symm)
  · exact hbit (by omega) (.inl (cellA_eq_column _ j).symm)
  · exact hbit (by omega) (.inr (cellB_eq_row j hj).symm)

end Sys2Proof.Machine
end

section
/-! SUPPORT. MASK_SELECT: the least mask of the lowest score, each score the one MASK_APPLY and MASK_SCORE would give
(45_mask_format.md R261, R262). -/

namespace Sys2Proof.Machine

/-! ### The least index of the lowest score -/

/-- Of eight scores one is lowest, and `leastMin` finds the first of them (R261, R262). -/
theorem leastMin_spec (S : List Nat) :
    leastMin S < 8 ∧ (∀ k < 8, S.getD (leastMin S) 0 ≤ S.getD k 0) ∧
      ∀ m < leastMin S, S.getD (leastMin S) 0 < S.getD m 0 := by
  obtain ⟨a, ha, hmin⟩ := Finset.exists_min_image (Finset.range 8) (fun k => S.getD k 0) ⟨0, by decide⟩
  simp only [Finset.mem_range] at ha hmin
  obtain ⟨b, hb⟩ : ∃ b, (List.range 8).find? (fun m => (List.range 8).all fun k =>
      decide (S.getD m 0 ≤ S.getD k 0)) = some b :=
    Option.isSome_iff_exists.mp (List.find?_isSome.mpr ⟨a, List.mem_range.mpr ha, by simpa using hmin⟩)
  have hbest : leastMin S = b := by rw [leastMin, hb, Option.getD_some]
  rw [hbest]
  obtain ⟨hle, hb8, hfirst⟩ := List.find?_range_eq_some.mp hb
  have hle : ∀ k < 8, S.getD b 0 ≤ S.getD k 0 := by simpa using hle
  refine ⟨List.mem_range.mp hb8, hle, fun m hm => ?_⟩
  obtain ⟨k, hk, hlt⟩ : ∃ k < 8, S.getD k 0 < S.getD m 0 := by simpa using hfirst m hm
  exact (hle k hk).trans_lt hlt

/-! ### The scores -/

section
variable (s : State) {m : Nat}

theorem State.getD_maskScores (P : Params) (hm : m < 8) :
    (s.maskScores P).getD m 0 = scoreOfMask P (width s.ver) (s.grid .reserved) (s.grid .bitmap) m := by
  rw [List.getD_eq_getElem _ _ (by simpa [State.maskScores] using hm)]
  simp only [State.maskScores, List.getElem_map, List.getElem_range]

/-- The matrix whose penalties MASK_SELECT takes is the one MASK_APPLY leaves (R250, R261). -/
theorem State.grid_maskApplyEffect (P : Params) (m : Nat) :
    (maskApplyEffect P m s).grid .bitmap =
      gridOf (width s.ver) (maskedCell P m (s.grid .reserved).cell (s.grid .bitmap).cell) := by
  refine gridOf_congr fun x hx y hy => ?_
  have hx8 : x < 8 * stride s.ver := by
    have := div_eight_lt_stride (v := s.ver) hx
    omega
  rw [cell_maskApplyEffect P s m hx8 hy, maskedCell, s.grid_cell .reserved hx hy, s.grid_cell .bitmap hx hy]
  exact if_congr (and_iff_right hx) rfl rfl

theorem State.getD_maskScores_eq_penalty (P : Params) (hm : m < 8) :
    (s.maskScores P).getD m 0 = (maskApplyEffect P m s).penalty.total := by
  rw [s.getD_maskScores P hm, scoreOfMask, State.penalty, s.grid_maskApplyEffect]; rfl

theorem State.getD_maskScores_lt (P : Params) (hhi : s.ver ≤ 40) (hm : m < 8) :
    (s.maskScores P).getD m 0 < 2 ^ 32 := by
  rw [s.getD_maskScores P hm]
  exact penalties_total_lt _ (width_pos _) (by unfold width; omega)

/-- SCOREm after MASK_SELECT (R261). -/
theorem getD_scores_maskSelectEffect (P : Params) (hm : m < 8) :
    (maskSelectEffect P s).scores.toList.getD m 0 = BitVec.ofNat 32 ((s.maskScores P).getD m 0) := by
  have hscores : (maskSelectEffect P s).scores = Vector.ofFn fun m => BitVec.ofNat 32 ((s.maskScores P).getD m.val 0) :=
    rfl
  rw [hscores, Vector.toList_ofFn, List.getD_eq_getElem _ _ (by rwa [List.length_ofFn]), List.getElem_ofFn]

theorem toNat_getD_scores_maskSelectEffect (P : Params) (hhi : s.ver ≤ 40) (hm : m < 8) :
    ((maskSelectEffect P s).scores.toList.getD m 0).toNat = (s.maskScores P).getD m 0 := by
  rw [getD_scores_maskSelectEffect s P hm, BitVec.toNat_ofNat, Nat.mod_eq_of_lt (s.getD_maskScores_lt P hhi hm)]

end

/-! ### MASK_SELECT -/

theorem exec_maskSelect {s : State} (hcfg : s.cfgOk = true) (hframe : s.frameBuilt = true) :
    exec .maskSelect s = .next (maskSelectEffect stdParams s).complete := by
  rw [show exec .maskSelect s = execMaskSelect s from rfl, execMaskSelect, maskSelect,
    frameCheck_eq_none.mpr ⟨hcfg, hframe⟩, guarded_none, outcome_done]

/-- The registers MASK_SELECT leaves (R261), for a winner b among the eight. -/
theorem maskSelectEffect_complete_eq (P : Params) (s : State) {b : Nat} (hb : b = leastMin (s.maskScores P))
    (hb8 : b < 8) :
    (maskSelectEffect P s).complete = { s with
      mem := (maskSelectEffect P s).complete.mem
      scores := (maskSelectEffect P s).complete.scores
      bestId := BitVec.ofNat 3 b
      bestValid := true
      result := (maskSelectEffect P s).complete.scores.toList.getD b 0
      selected := true
      symbolValid := false
      seq := .idle
      done := true } := by
  rw [State.complete_scores, getD_scores_maskSelectEffect s P hb8]
  subst hb
  simp only [maskSelectEffect, State.complete]

/-- Settles O54: MASK_SELECT's eight scores are those of MASK_APPLY then MASK_SCORE, below 2^32 each, so the registers compare
as the scores do; the winner's mask is written as MASK_APPLY writes it. -/
theorem maskSelectResult : Obligations.MaskSelectResult := by
  unfold Obligations.MaskSelectResult
  intro s hlo hhi hframe
  have hcfg : s.cfgOk = true := State.cfgOk_iff.mpr ⟨hlo, hhi⟩
  obtain ⟨hb8, hleast, hfirst⟩ := leastMin_spec (s.maskScores stdParams)
  have hscore {m : Nat} (hm : m < 8) := toNat_getD_scores_maskSelectEffect s stdParams hhi hm
  refine ⟨_, leastMin (s.maskScores stdParams), _, exec_maskSelect hcfg hframe, hb8, exec_maskApply _ hcfg hframe,
    maskSelectEffect_complete_eq stdParams s rfl hb8, fun a => ?same, fun m hm => ?score, fun m hm => ?least,
    fun m hm => ?first⟩
  case same => rfl
  case score =>
    refine ⟨_, _, exec_maskApply m hcfg hframe, exec_maskScore hcfg hframe, ?_⟩
    rw [State.complete_scores, getD_scores_maskSelectEffect s stdParams hm, s.getD_maskScores_eq_penalty stdParams hm]
    rfl
  case least =>
    rw [State.complete_scores, hscore hb8, hscore hm]
    exact hleast m hm
  case first =>
    rw [State.complete_scores, hscore hb8, hscore (hm.trans hb8)]
    exact hfirst m hm

end Sys2Proof.Machine
end

section
/-! SUPPORT. Session control: SESSION_BEGIN, and ENCODE against its sub-steps issued one by one (46_session.md R291–R293). -/

namespace Sys2Proof.Machine

/-- Settles O57: SESSION_BEGIN has no check, and its writes are the ones listed, completed. -/
theorem sessionBeginResult : Obligations.SessionBeginResult := by
  unfold Obligations.SessionBeginResult
  exact ⟨by decide, exec_sessionBegin⟩

/-! ### Commands one after another -/

theorem frameBuildEffect_complete (P : Params) (s : State) :
    frameBuildEffect P s.complete = (frameBuildEffect P s).complete := by
  simp only [frameBuildEffect, State.complete]; rfl

theorem formatEmbedEffect_complete (P : Params) (m : Nat) (s : State) :
    formatEmbedEffect P m s.complete = (formatEmbedEffect P m s).complete := by
  simp only [formatEmbedEffect, State.complete]; rfl

/-- A command's writes neither read nor change BUSY and DONE: they are the same once the command before has completed. -/
theorem Writes.complete {i : Instr} {s t : State} (h : Writes i s t) : Writes i s.complete t.complete := by
  cases h with
  | nop => exact .nop _
  | gfLog => exact .gfLog _
  | gfExp => exact .gfExp _
  | rsGen hdeg => exact .rsGen (s := s.complete) hdeg
  | rsEnc hgen hdst => exact .rsEnc (s := s.complete) hgen hdst
  | streamBuild hcfg hfits => exact .streamBuild (s := s.complete) hcfg hfits
  | frameBuild hcfg hnew hfits =>
    exact frameBuildEffect_complete stdParams s ▸ .frameBuild (s := s.complete) hcfg hnew hfits
  | place hcfg hframe hstream => exact .place (s := s.complete) hcfg hframe hstream
  | maskApply m hcfg hframe => exact .maskApply m (s := s.complete) hcfg hframe
  | maskScore hcfg hframe => exact .maskScore (s := s.complete) hcfg hframe
  | maskSelect hcfg hframe => exact .maskSelect (s := s.complete) hcfg hframe
  | formatEmbed m hcfg hframe =>
    exact formatEmbedEffect_complete stdParams m s ▸ .formatEmbed m (s := s.complete) hcfg hframe
  | sessionBegin => exact .sessionBegin _

/-- A command whose checks pass completes with its writes (R28); `Writes` leaves RS_ENC's source check unsaid. -/
theorem Writes.exec_eq {i : Instr} {s t : State} (h : Writes i s t) (hi : i ≠ .rsEnc) : exec i s = .next t.complete := by
  cases h with
  | nop => rfl
  | gfLog => exact exec_gfLog s
  | gfExp => exact exec_gfExp s
  | rsGen hdeg => exact exec_rsGen hdeg
  | rsEnc => exact absurd rfl hi
  | streamBuild hcfg hfits => exact exec_streamBuild hcfg hfits
  | frameBuild hcfg hnew hfits => exact exec_frameBuild hcfg hnew hfits
  | place hcfg hframe hstream => exact exec_place hcfg hframe hstream
  | maskApply m hcfg hframe => exact exec_maskApply m hcfg hframe
  | maskScore hcfg hframe => exact exec_maskScore hcfg hframe
  | maskSelect hcfg hframe => exact exec_maskSelect hcfg hframe
  | formatEmbed m hcfg hframe => exact exec_formatEmbed m hcfg hframe
  | sessionBegin => exact exec_sessionBegin s

/-- No command's writes record an error (R320). -/
theorem Writes.error_eq {i : Instr} {s t : State} (h : Writes i s t) : (t.err, t.errCode) = (s.err, s.errCode) := by
  cases h <;> rfl

theorem Writes.truncated_eq {i : Instr} {s t : State} (h : Writes i s t) (hi : i ≠ .streamBuild ∧ i ≠ .sessionBegin) :
    t.truncated = s.truncated := by
  cases h with
  | streamBuild => exact absurd rfl hi.1
  | sessionBegin => exact absurd rfl hi.2
  | nop | gfLog | gfExp | rsGen | rsEnc | frameBuild | place | maskApply | maskScore | maskSelect | formatEmbed => rfl

/-! ### ENCODE -/

/-- The sub-steps of ENCODE issued one after another end where ENCODE's writes do, completed (R292). -/
theorem EncodeWrites.exec_substeps {s t : State} (h : EncodeWrites s t) :
    ∃ s1 s2 s3 s4, exec .streamBuild s = .next s1 ∧ exec .frameBuild s1 = .next s2 ∧ exec .place s2 = .next s3 ∧
      exec .maskSelect s3 = .next s4 ∧ exec (.formatEmbed s4.bestId.toNat) s4 = .next t.complete ∧
      t.truncated = s1.truncated ∧ t.result = s4.result := by
  obtain ⟨s1, s2, s3, s4, h1, h2, h3, h4, h5⟩ := h
  refine ⟨_, _, _, _, h1.exec_eq nofun, h2.complete.exec_eq nofun, h3.complete.exec_eq nofun, h4.complete.exec_eq nofun,
    h5.complete.exec_eq nofun, ?truncated, ?result⟩
  case truncated =>
    calc t.truncated = s4.truncated := h5.truncated_eq ⟨nofun, nofun⟩
      _ = s3.truncated := h4.truncated_eq ⟨nofun, nofun⟩
      _ = s2.truncated := h3.truncated_eq ⟨nofun, nofun⟩
      _ = s1.truncated := h2.truncated_eq ⟨nofun, nofun⟩
  case result => exact h5.result_eq (by simp)

theorem EncodeWrites.error_eq {s t : State} (h : EncodeWrites s t) : (t.err, t.errCode) = (s.err, s.errCode) := by
  obtain ⟨s1, s2, s3, s4, h1, h2, h3, h4, h5⟩ := h
  calc (t.err, t.errCode) = (s4.err, s4.errCode) := h5.error_eq
    _ = (s3.err, s3.errCode) := h4.error_eq
    _ = (s2.err, s2.errCode) := h3.error_eq
    _ = (s1.err, s1.errCode) := h2.error_eq
    _ = (s.err, s.errCode) := h1.error_eq

/-- FRAME_BUILD's last check (R200, R323). -/
theorem frameBuildCheck_of_full {s : State} (hcfg : s.cfgOk = true) (hnew : s.frameBuilt = false)
    (hfull : s.allocFits s.frameCharge = false) : frameBuildCheck s = some .arenaExhausted := by
  simp only [frameBuildCheck, hcfg, hnew, hfull, Bool.true_eq_false, Bool.false_eq_true, if_false, if_true]

/-- What is left of the arena after STREAM_BUILD's allocation (R37, R181). -/
theorem allocFits_streamBuildEffect_iff (P : Params) {s : State} (hroom : s.allocFits (s.entry P).total = true) (n : Nat) :
    (streamBuildEffect P s).allocFits n = true ↔
      s.arenaUsed.toNat + (s.entry P).total + n ≤ s.arenaLimit.toNat := by
  rw [State.allocFits_iff, ← State.toNat_usedAfter hroom]; rfl

section
variable {s : State} (hcfg : s.cfgOk = true) (hnew : s.frameBuilt = false)
  (hroom : s.allocFits (s.entry stdParams).total = true)
include hcfg hnew hroom

/-- With room for the stream, ENCODE goes on from STREAM_BUILD's writes (R292). -/
theorem encodeAll_of_streamRoom :
    encodeAll stdParams s =
      ((frameBuild stdParams (streamBuildEffect stdParams s)).andThen (place stdParams)).andThen fun t =>
        (maskSelect stdParams t).andThen fun u => formatEmbed stdParams u.bestId.toNat u := by
  rw [encodeAll, encodeCheck_eq_none.mpr ⟨hcfg, hnew⟩, guarded_none, andThen_done, streamBuild,
    streamBuildCheck_eq_none.mpr ⟨hcfg, hroom⟩, guarded_none, andThen_done]

/-- With room for the frame too, no sub-step of ENCODE raises an error (R292). -/
theorem encodeAll_of_frameRoom (hframe : (streamBuildEffect stdParams s).allocFits
    (streamBuildEffect stdParams s).frameCharge = true) : ∃ t, EncodeWrites s t ∧ encodeAll stdParams s = .done t := by
  obtain ⟨t, ht, hrest⟩ := encode_after_frame (.streamBuild hcfg hroom)
    (.frameBuild (s := streamBuildEffect stdParams s) hcfg hnew hframe)
  refine ⟨t, ht, ?_⟩
  rw [encodeAll_of_streamRoom hcfg hnew hroom, frameBuild,
    frameBuildCheck_eq_none (s := streamBuildEffect stdParams s) |>.mpr ⟨hcfg, hnew, hframe⟩, guarded_none, andThen_done]
  exact hrest

/-- Without room for the frame, FRAME_BUILD's error ends ENCODE and keeps what STREAM_BUILD did (R293). -/
theorem encodeAll_of_no_frameRoom (hfull : (streamBuildEffect stdParams s).allocFits
    (streamBuildEffect stdParams s).frameCharge = false) :
    encodeAll stdParams s = .failed .arenaExhausted (streamBuildEffect stdParams s) := by
  rw [encodeAll_of_streamRoom hcfg hnew hroom, frameBuild,
    frameBuildCheck_of_full (s := streamBuildEffect stdParams s) hcfg hnew hfull, guarded_some, andThen_failed,
    andThen_failed]

end

theorem exec_encode (s : State) : exec .encode s = (encodeAll stdParams s).outcome := rfl

/-- Settles O58: with its checks passed ENCODE is the writes of its five sub-steps, and each of them writes the same whether or
not the one before has completed. -/
theorem encodeRunsThePipeline : Obligations.EncodeRunsThePipeline := by
  unfold Obligations.EncodeRunsThePipeline
  rintro s _ _ hlo hhi rfl rfl hnew hfits
  have hcfg : s.cfgOk = true := State.cfgOk_iff.mpr ⟨hlo, hhi⟩
  have hroom : s.allocFits (s.entry stdParams).total = true := State.allocFits_iff.mpr (Nat.le_of_add_right_le hfits)
  obtain ⟨t, ht, hdone⟩ := encodeAll_of_frameRoom hcfg hnew hroom ((allocFits_streamBuildEffect_iff _ hroom _).mpr hfits)
  obtain ⟨s1, s2, s3, s4, h1, h2, h3, h4, h5, htrunc, hresult⟩ := ht.exec_substeps
  obtain ⟨hframe, hstream, hgen, hplaced, hsel, hsymbol⟩ := ht.flags
  obtain ⟨herr, hcode⟩ := Prod.mk.inj ht.error_eq
  exact ⟨s1, s2, s3, s4, t.complete, h1, h2, h3, h4, h5, by rw [exec_encode, hdone, outcome_done], hstream, hgen, hframe,
    hplaced, hsel, hsymbol, htrunc, hresult, herr, hcode⟩

/-- A complete symbol has a frame (R27). -/
theorem State.Inv.symbol_built {s : State} (h : s.Inv) (hsymbol : s.symbolValid = true) : s.frameBuilt = true :=
  h.best_built (h.selected_best (h.symbol_selected hsymbol))

/-- Settles O59: ENCODE goes on from STREAM_BUILD's writes, to which FRAME_BUILD's last check answers ARENA_EXHAUSTED. -/
theorem encodeKeepsCompletedSteps : Obligations.EncodeKeepsCompletedSteps := by
  unfold Obligations.EncodeKeepsCompletedSteps
  rintro s _ _ hlo hhi rfl rfl hnew hfits hfull
  have hcfg : s.cfgOk = true := State.cfgOk_iff.mpr ⟨hlo, hhi⟩
  have hroom : s.allocFits (s.entry stdParams).total = true := State.allocFits_iff.mpr hfits
  have hnoframe : (streamBuildEffect stdParams s).allocFits (streamBuildEffect stdParams s).frameCharge = false :=
    Bool.eq_false_iff.mpr fun h => Nat.not_le.mpr hfull ((allocFits_streamBuildEffect_iff _ hroom _).mp h)
  refine ⟨_, exec_streamBuild hcfg hroom, rfl, rfl, hnew, State.toNat_usedAfter hroom, fun hinv => ?symbol, ?encode⟩
  case symbol => exact Bool.eq_false_iff.mpr fun h => by simp [hinv.symbol_built h] at hnew
  case encode => rw [exec_encode, encodeAll_of_no_frameRoom hcfg hnew hroom hnoframe, outcome_failed]; rfl

end Sys2Proof.Machine
end

section
/-! SUPPORT. What the host meets while BUSY = 1 and under the lock on CFG (10_state.md R22, R30; 60_exceptions.md R324;
70_reset_and_hazards.md R366). -/

namespace Sys2Proof.Machine

theorem State.busy_of_executing {s : State} {n : Nat} (h : s.seq = .executing n) : s.busy = true := by
  simp only [State.busy, h]

/-! ### Reads while BUSY = 1 -/

section BusyRead
variable (P : Params) {s : State} {a : Addr}

/-- ID, CTRL and STATUS read their words, busy or not (R366). -/
theorem State.busRead_of_readableBusy (h : readableBusy (region a) = true) :
    s.busRead P a = { s with readData := s.regionWord P (region a) } := by
  simp only [State.busRead, h, Bool.not_true, Bool.and_false, Bool.false_eq_true, if_false]

/-- Any other read while BUSY = 1 draws a free word (R366). -/
theorem State.busRead_of_not_readableBusy (hbusy : s.busy = true) (h : readableBusy (region a) = false) :
    s.busRead P a = { s with readData := Config.freeWord s.draws, draws := s.draws + 1 } := by
  simp only [State.busRead, hbusy, h, Bool.not_false, Bool.and_self, if_true]

end BusyRead

/-- Settles O16: the three readable registers return their words, and no other address is theirs. -/
theorem busyReads : Obligations.BusyReads := by
  unfold Obligations.BusyReads
  intro s a n hseq
  cases hread : readableBusy (region a) with
  | true =>
    have hword {w : Nat} (r : Reg) (hr : regionAt w = .reg r) (ha : wordAddr a = w) :
        s.regionWord stdParams (region a) = s.regWord stdParams r := by
      rw [region_of_wordAddr ha, hr, State.regionWord]
    exact ⟨_, s.draws, State.busRead_of_readableBusy _ hread, hword .id rfl, hword .ctrl rfl, hword .status rfl⟩
  | false =>
    have hother {w : Nat} (hw : readableBusy (regionAt w) = true) : wordAddr a ≠ w := fun ha => by
      rw [region_of_wordAddr ha, hw] at hread
      cases hread
    exact ⟨_, _, State.busRead_of_not_readableBusy _ (State.busy_of_executing hseq) hread, fun ha => absurd ha (hother rfl),
      fun ha => absurd ha (hother rfl), fun ha => absurd ha (hother rfl)⟩

/-! ### Dropped writes -/

/-- The register an address selects is that of its offset (R21, R71). -/
theorem regRegion_wordAddr_of_region {a : Addr} {r : Reg} (h : region a = .reg r) : regRegion (wordAddr a) = .reg r := by
  revert h
  unfold region regionAt
  split
  · exact id
  · repeat' split
    all_goals simp

/-- STATUS stands at 0x008 only (R21). -/
theorem eq_of_regRegion_eq_status {w : Nat} (h : regRegion w = .reg .status) : w = 0x008 := by
  revert h
  unfold regRegion
  split <;> simp

/-- Settles O22: while BUSY = 1 only CTRL and STATUS take a write; the write to a locked CFG is the first part of O12. -/
theorem busSideErrors : Obligations.BusSideErrors := by
  unfold Obligations.BusSideErrors
  refine ⟨fun s a v n hseq hctrl hstatus => ?busy, sessionLocksCfg.1⟩
  case busy =>
    rw [State.busWrite, State.busy_of_executing hseq, if_pos rfl]
    exact State.writeBusy_of_ne _ s (fun h => hctrl (wordAddr_of_region_ctrl h))
      (fun h => hstatus (eq_of_regRegion_eq_status (regRegion_wordAddr_of_region h))) v

end Sys2Proof.Machine
end

section
/-! SUPPORT. The checks of every command in order of priority, and what a failed one leaves (60_exceptions.md R320, R322,
R323); the bytes a command writes when they pass (70_reset_and_hazards.md R363). -/

namespace Sys2Proof.Machine

/-! ### The checks before the first write -/

/-- The first error a command finds before it writes anything: its own checks, for ENCODE followed by those of STREAM_BUILD
(R292, R323). -/
def upFrontCheck (i : Instr) (s : State) : Option ErrCode :=
  match i with
  | .nop | .gfLog | .gfExp | .sessionBegin => none
  | .rsGen => rsGenCheck s
  | .rsEnc => rsEncCheck s
  | .streamBuild => streamBuildCheck stdParams s
  | .frameBuild => frameBuildCheck s
  | .place => placeCheck s
  | .maskApply _ | .maskScore | .maskSelect | .formatEmbed _ => frameCheck s
  | .encode => (encodeCheck s).or (streamBuildCheck stdParams s)

theorem guarded_of_some {c : Option ErrCode} {e : ErrCode} (h : c = some e) (s t : State) : guarded c s t = .failed e s := by
  rw [h, guarded_some]

/-- ENCODE stops at the first of its own checks and STREAM_BUILD's (R292, R293). -/
theorem encodeAll_of_upFrontCheck {s : State} {e : ErrCode} (h : upFrontCheck .encode s = some e) :
    encodeAll stdParams s = .failed e s := by
  rcases Option.or_eq_some_iff.mp h with henc | ⟨henc, hstream⟩
  · simp only [encodeAll, guarded_of_some henc, andThen_failed]
  · simp only [encodeAll, henc, guarded_none, andThen_done, streamBuild, guarded_of_some hstream, andThen_failed]

/-- A command whose check fails records the error and writes nothing (R320). -/
theorem exec_of_upFrontCheck {i : Instr} {s : State} {e : ErrCode} (h : upFrontCheck i s = some e) :
    exec i s = .next (s.raiseError e) := by
  have hrun : runCommand stdParams i s = .failed e s := by
    cases i with
    | nop | gfLog | gfExp | sessionBegin => cases h
    | rsGen | rsEnc | streamBuild | frameBuild | place | maskApply | maskScore | maskSelect | formatEmbed =>
      exact guarded_of_some h s _
    | encode => exact encodeAll_of_upFrontCheck h
  rw [← execWith_stdParams, execWith, hrun, outcome_failed]

/-! ### When each check fails -/

theorem State.cfgOk_eq_false_iff {s : State} : s.cfgOk = false ↔ s.ver = 0 ∨ 40 < s.ver := by
  rw [← Bool.not_eq_true, State.cfgOk_iff]; omega

theorem State.allocFits_eq_false_iff {s : State} {n : Nat} :
    s.allocFits n = false ↔ s.arenaLimit.toNat < s.arenaUsed.toNat + n := by
  rw [← Bool.not_eq_true, State.allocFits_iff, Nat.not_le]

/-- BAD_CFG comes first in every command that reads CFG (R322, R323). -/
theorem upFrontCheck_of_badCfg {s : State} (h : s.cfgOk = false) {i : Instr}
    (hi : i ∈ [Instr.streamBuild, .frameBuild, .place, .maskScore, .maskSelect, .encode] ∨
      (∃ m, i = .maskApply m) ∨ ∃ m, i = .formatEmbed m) : upFrontCheck i s = some .badCfg := by
  have hframe : frameCheck s = some .badCfg := if_pos h
  rcases hi with hi | ⟨m, rfl⟩ | ⟨m, rfl⟩
  · simp only [List.mem_cons, List.not_mem_nil, or_false] at hi
    rcases hi with rfl | rfl | rfl | rfl | rfl | rfl
    · exact if_pos h
    · exact if_pos h
    · exact if_pos h
    · exact hframe
    · exact hframe
    · simp only [upFrontCheck, encodeCheck, h, if_true, Option.some_or]
  · exact hframe
  · exact hframe

theorem rsGenCheck_of_degree {s : State} (h : s.genDegree = 0 ∨ 68 < s.genDegree) : rsGenCheck s = some .badArg :=
  if_neg (by omega)

theorem rsEncCheck_of_no_generator {s : State} (h : s.genValid = false) : rsEncCheck s = some .seq := if_pos h

theorem rsEncCheck_of_range {s : State} (hgen : s.genValid = true)
    (h : 4096 < s.encSource + s.encLength ∨ 4096 < s.encDest + s.encDegree) : rsEncCheck s = some .badArg := by
  rw [rsEncCheck, if_neg (by simp [hgen]), if_pos h]

section LegalVersion
variable {s : State} (hcfg : s.cfgOk = true)
include hcfg

theorem streamBuildCheck_of_full (h : s.allocFits (s.entry stdParams).total = false) :
    streamBuildCheck stdParams s = some .arenaExhausted := by
  rw [streamBuildCheck, if_neg (by simp [hcfg]), if_pos h]

theorem frameBuildCheck_of_frame (h : s.frameBuilt = true) : frameBuildCheck s = some .frameAlreadyBuilt := by
  rw [frameBuildCheck, if_neg (by simp [hcfg]), if_pos h]

theorem placeCheck_of_missing (h : s.frameBuilt = false ∨ s.streamValid = false) : placeCheck s = some .seq := by
  rw [placeCheck, if_neg (by simp [hcfg]), if_pos h]

theorem frameCheck_of_no_frame (h : s.frameBuilt = false) : frameCheck s = some .seq := by
  rw [frameCheck, if_neg (by simp [hcfg]), if_pos h]

theorem encodeCheck_of_frame (h : s.frameBuilt = true) : encodeCheck s = some .frameAlreadyBuilt := by
  rw [encodeCheck, if_neg (by simp [hcfg]), if_pos h]

end LegalVersion

/-- Settles O60: each row's condition fails its command's check, of which nothing is left but the error. -/
theorem commandErrors : Obligations.CommandErrors := by
  unfold Obligations.CommandErrors
  rintro s _ _ _ raises rfl rfl rfl hraises
  obtain rfl : raises = fun c => s.raiseError c := funext hraises
  refine ⟨fun hv i hi => ?badCfg, fun hdeg => ?degree, fun hgen => ?noGenerator, fun hgen hrange => ?range,
    fun hlo hhi => ?legal⟩
  case badCfg => exact exec_of_upFrontCheck (upFrontCheck_of_badCfg (State.cfgOk_eq_false_iff.mpr hv) hi)
  case degree => exact exec_of_upFrontCheck (i := .rsGen) (rsGenCheck_of_degree hdeg)
  case noGenerator => exact exec_of_upFrontCheck (i := .rsEnc) (rsEncCheck_of_no_generator hgen)
  case range => exact exec_of_upFrontCheck (i := .rsEnc) (rsEncCheck_of_range hgen hrange)
  case legal =>
    have hcfg : s.cfgOk = true := State.cfgOk_iff.mpr ⟨hlo, hhi⟩
    refine ⟨fun hfull => ?stream, fun hframe => ?twice, fun hnew hfull => ?frame, fun hmissing => ?place,
      fun hnew => ?noFrame⟩
    case stream =>
      have hcheck := streamBuildCheck_of_full hcfg (State.allocFits_eq_false_iff.mpr hfull)
      refine ⟨exec_of_upFrontCheck (i := .streamBuild) hcheck, fun hnew => exec_of_upFrontCheck (i := .encode) ?_⟩
      rw [upFrontCheck, encodeCheck_eq_none.mpr ⟨hcfg, hnew⟩, Option.none_or, hcheck]
    case twice =>
      refine ⟨exec_of_upFrontCheck (i := .frameBuild) (frameBuildCheck_of_frame hcfg hframe),
        exec_of_upFrontCheck (i := .encode) ?_⟩
      rw [upFrontCheck, encodeCheck_of_frame hcfg hframe, Option.some_or]
    case frame =>
      exact exec_of_upFrontCheck (i := .frameBuild)
        (frameBuildCheck_of_full hcfg hnew (State.allocFits_eq_false_iff.mpr hfull))
    case place => exact exec_of_upFrontCheck (i := .place) (placeCheck_of_missing hcfg hmissing)
    case noFrame =>
      have hcheck := frameCheck_of_no_frame hcfg hnew
      exact ⟨exec_of_upFrontCheck (i := .maskScore) hcheck, exec_of_upFrontCheck (i := .maskSelect) hcheck,
        fun m => ⟨exec_of_upFrontCheck (i := .maskApply m) hcheck, exec_of_upFrontCheck (i := .formatEmbed m) hcheck⟩⟩

/-! ### The bytes a passed check lets a command write -/

theorem not_mem_of_ifPasses {check : Option ErrCode} {as : List Nat} {a : Nat} (hc : check = none)
    (h : a ∉ ifPasses check as) : a ∉ as := fun ha => h (mem_ifPasses.mpr ⟨hc, ha⟩)

theorem ne_addr_of_not_mem_addrs {r : Ram} {start n a : Nat} (h : a ∉ r.addrs start n) :
    ∀ k < n, a ≠ r.addr (start + k) := fun k hk ha =>
  h (List.mem_map.mpr ⟨k, List.mem_range.mpr hk, ha.symm⟩)

/-- A byte outside the first `n` of a RAM. -/
theorem ne_addr_of_not_mem_addrs_zero {r : Ram} {n a : Nat} (h : a ∉ r.addrs 0 n) : ∀ k < n, a ≠ r.addr k := fun k hk =>
  Nat.zero_add k ▸ ne_addr_of_not_mem_addrs h k hk

theorem Memory.byte_storeBytes_of_not_mem_addrs (f : Nat) (m : Memory) {r : Ram} {start n a : Nat} {bs : List Byte}
    (hn : bs.length = n) (h : a ∉ r.addrs start n) :
    Memory.byte f (Memory.storeBytes m (r.addr start) bs) a = Memory.byte f m a :=
  Memory.byte_storeBytes_of_ne_addr _ _ _ _ _ (ne_addr_of_not_mem_addrs (hn ▸ h))

theorem Memory.byte_storeCells_of_not_mem_cellAddrs (f g : Nat) {r : Ram} {S : Nat} (m : Memory) {ws : List CellWrite}
    {a : Nat} (h : a ∉ cellAddrs r S ws) : Memory.byte g (Memory.storeCells f r S m ws) a = Memory.byte g m a :=
  Memory.byte_storeCells_of_ne _ _ _ _ _ _ fun w hw ha => h (List.mem_map.mpr ⟨w, hw, ha.symm⟩)

/-- MASK_SELECT writes some of the bytes of BITMAP's matrix (R261). -/
theorem byteAt_maskSelectEffect_of_ne (P : Params) (s : State) {a : Nat}
    (ha : ∀ k < matrixBytes s.ver, a ≠ Ram.bitmap.addr k) : (maskSelectEffect P s).byteAt a = s.byteAt a :=
  (congrArg (fun mem => Memory.byte s.ramDraw mem a) (maskSelectEffect_mem P s)).trans
    (byteAt_maskApplyEffect_of_ne P s (leastMin (s.maskScores P)) ha)

/-- STREAM_BUILD writes GEN[0..e] and STREAM[0..TOTAL−1] only (R181). -/
theorem Writes.streamBuild_byteAt {s t : State} (h : Writes .streamBuild s t) {a : Nat}
    (ha : a ∉ streamFootprint stdParams s) : t.byteAt a = s.byteAt a := by
  cases h with
  | streamBuild hcfg hfits =>
    obtain ⟨hgen, hstream⟩ := not_or.mp (mt List.mem_append.mpr
      (not_mem_of_ifPasses (streamBuildCheck_eq_none.mpr ⟨hcfg, hfits⟩) ha))
    exact byteAt_streamBuildEffect_of_ne stdParams s
      (fun k hk => ne_addr_of_not_mem_addrs_zero hgen k (Nat.lt_succ_of_le hk)) (ne_addr_of_not_mem_addrs_zero hstream)

/-- The footprint of a FRAME_BUILD that writes is both matrices, whole (R201). -/
theorem Writes.not_mem_matrices {s t : State} (h : Writes .frameBuild s t) {a : Nat} (ha : a ∉ frameFootprint s) :
    a ∉ Ram.bitmap.addrs 0 (matrixBytes s.ver) ∧ a ∉ Ram.reserved.addrs 0 (matrixBytes s.ver) := by
  cases h with
  | frameBuild hcfg hnew hfits =>
    exact not_or.mp (mt List.mem_append.mpr
      (not_mem_of_ifPasses (frameBuildCheck_eq_none.mpr ⟨hcfg, hnew, hfits⟩) ha))

theorem Writes.frameBuild_byteAt {s t : State} (h : Writes .frameBuild s t) {a : Nat} (ha : a ∉ frameFootprint s) :
    t.byteAt a = s.byteAt a := by
  obtain ⟨hbitmap, hreserved⟩ := h.not_mem_matrices ha
  cases h with
  | frameBuild hcfg hnew hfits =>
    rw [← State.complete_byteAt]
    exact byteAt_frameBuildEffect_of_ne hcfg fun k hk =>
      ⟨ne_addr_of_not_mem_addrs_zero hbitmap k hk, ne_addr_of_not_mem_addrs_zero hreserved k hk⟩

/-- A write leaves every byte outside its command's footprint (R363). -/
theorem Writes.byteAt_of_not_mem_footprint {i : Instr} {s t : State} (h : Writes i s t) (hc : upFrontCheck i s = none)
    {a : Nat} (ha : a ∉ footprint stdParams i s) : t.byteAt a = s.byteAt a := by
  cases h with
  | nop | gfLog | gfExp | maskScore | sessionBegin => rfl
  | rsGen =>
    rw [State.byteAt, rsGenEffect_mem]
    exact Memory.byte_storeBytes_of_not_mem_addrs _ _ (length_genImage _) (not_mem_of_ifPasses hc ha)
  | rsEnc =>
    rw [State.byteAt, rsEncEffect_mem]
    exact Memory.byte_storeBytes_of_not_mem_addrs _ _ (length_encoded s) (not_mem_of_ifPasses hc ha)
  | streamBuild hcfg hfits => exact (Writes.streamBuild hcfg hfits).streamBuild_byteAt ha
  | frameBuild hcfg hnew hfits => exact (Writes.frameBuild hcfg hnew hfits).frameBuild_byteAt ha
  | place =>
    rw [State.byteAt, placeEffect_mem]
    exact Memory.byte_storeCells_of_not_mem_cellAddrs _ _ _ (not_mem_of_ifPasses hc ha)
  | maskApply m =>
    rw [State.byteAt, maskApplyEffect_mem]
    exact Memory.byte_storeCells_of_not_mem_cellAddrs _ _ _ (not_mem_of_ifPasses hc ha)
  | maskSelect =>
    exact byteAt_maskSelectEffect_of_ne _ _ (ne_addr_of_not_mem_addrs_zero (not_mem_of_ifPasses hc ha))
  | formatEmbed m =>
    rw [State.byteAt, formatEmbedEffect_mem]
    exact Memory.byte_storeCells_of_not_mem_cellAddrs _ _ _ (not_mem_of_ifPasses hc ha)

/-- PLACE, MASK_SELECT and FORMAT_EMBED write inside the matrix in BITMAP (R232, R261, R272). -/
theorem Writes.byteAt_of_not_mem_bitmap {i : Instr} {s t : State} (h : Writes i s t)
    (hi : i = .place ∨ i = .maskSelect ∨ ∃ m, i = .formatEmbed m) {a : Nat}
    (ha : a ∉ Ram.bitmap.addrs 0 (matrixBytes s.ver)) : t.byteAt a = s.byteAt a := by
  have hne := ne_addr_of_not_mem_addrs_zero ha
  rcases hi with rfl | rfl | ⟨m, rfl⟩
  · cases h; exact byteAt_placeEffect_of_ne _ hne
  · cases h; exact byteAt_maskSelectEffect_of_ne _ _ hne
  · cases h with
    | formatEmbed _ hcfg _ => exact byteAt_formatEmbedEffect_of_ne hcfg _ _ hne

theorem Writes.ver_eq {i : Instr} {s t : State} (h : Writes i s t) : t.ver = s.ver := by cases h <;> rfl

/-- Outside ENCODE's footprint are the bytes outside those of its first two sub-steps (R292). -/
theorem not_mem_footprint_encode {s : State} (hc : upFrontCheck .encode s = none) {a : Nat}
    (ha : a ∉ footprint stdParams .encode s) :
    a ∉ streamFootprint stdParams s ∧ a ∉ frameFootprint (streamBuildEffect stdParams s) := by
  obtain ⟨hencode, hstream⟩ := Option.or_eq_none_iff.mp hc
  have hdone : streamBuild stdParams s = .done (streamBuildEffect stdParams s) := by
    rw [streamBuild, hstream, guarded_none]
  have hparts := not_mem_of_ifPasses hencode ha
  rw [hdone] at hparts
  exact not_or.mp (mt List.mem_append.mpr hparts)

/-- ENCODE leaves every byte outside its footprint: its sub-steps after FRAME_BUILD write only bytes that FRAME_BUILD has
written (R292). -/
theorem EncodeWrites.byteAt_of_not_mem_footprint {s t : State} (h : EncodeWrites s t)
    (hc : upFrontCheck .encode s = none) {a : Nat} (ha : a ∉ footprint stdParams .encode s) :
    t.byteAt a = s.byteAt a := by
  obtain ⟨hstream, hframe⟩ := not_mem_footprint_encode hc ha
  obtain ⟨s1, s2, s3, s4, h1, h2, h3, h4, h5⟩ := h
  obtain rfl : s1 = streamBuildEffect stdParams s := by cases h1; rfl
  obtain ⟨hbitmap, -⟩ := h2.not_mem_matrices hframe
  rw [← h2.ver_eq] at hbitmap
  have hbitmap3 : a ∉ Ram.bitmap.addrs 0 (matrixBytes s3.ver) := h3.ver_eq ▸ hbitmap
  have hbitmap4 : a ∉ Ram.bitmap.addrs 0 (matrixBytes s4.ver) := h4.ver_eq ▸ hbitmap3
  calc t.byteAt a = s4.byteAt a := h5.byteAt_of_not_mem_bitmap (.inr (.inr ⟨_, rfl⟩)) hbitmap4
    _ = s3.byteAt a := h4.byteAt_of_not_mem_bitmap (.inr (.inl rfl)) hbitmap3
    _ = s2.byteAt a := h3.byteAt_of_not_mem_bitmap (.inl rfl) hbitmap
    _ = (streamBuildEffect stdParams s).byteAt a := h2.frameBuild_byteAt hframe
    _ = s.byteAt a := h1.streamBuild_byteAt hstream

/-- Settles O26: a failed check writes no byte, and each write that a passed check allows stays in the footprint, as do
STREAM_BUILD's in an ENCODE that ends after it. -/
theorem footprintCoversWrites : Obligations.FootprintCoversWrites := by
  unfold Obligations.FootprintCoversWrites
  intro i s t a h ha
  cases hc : upFrontCheck i s with
  | some e =>
    rw [exec_of_upFrontCheck hc, Host.Outcome.next.injEq] at h
    rw [← h]; rfl
  | none =>
    rcases exec_cases h with ⟨u, hu, rfl⟩ | ⟨e, -, rfl⟩ | ⟨rfl, u, hu, rfl⟩ | ⟨rfl, e, u, -, hu, rfl⟩
    · exact hu.byteAt_of_not_mem_footprint hc ha
    · rfl
    · exact hu.byteAt_of_not_mem_footprint hc ha
    · exact hu.streamBuild_byteAt (not_mem_footprint_encode hc ha).1

end Sys2Proof.Machine
end
